-- ==== Sys2Proof/Word.lean ====
section
/-! DEFINITION. The words of the machine: 32-bit registers and addresses (spec 00_scope.md R8, R12), bytes of
memory, register numbers. -/

namespace Sys2Proof

/-- A 32-bit word: a register, an address, an instruction (R8). -/
abbrev Word := BitVec 32

/-- A byte of memory (R100). -/
abbrev Byte := BitVec 8

/-- A register number field, rs1, rs2 or rd (R40). -/
abbrev RegNum := BitVec 5

/-- A window number: the low three bits of CWP, arithmetic on it is modulo NWINDOWS = 8 (R42, R69). -/
abbrev Window := BitVec 3

/-- An address space identifier (R100). -/
abbrev Asi := BitVec 8

end Sys2Proof
end

