-- ==== Sys2Proof/Config.lean ====
section
/-! DEFINITION. What the implementation fixes, and the FREE VALUES: constants without a body, so that nothing can be
proved about which value they are. The first argument `k` of a free value is the count of values drawn before it
(`State.free`), so that two draws are unrelated. -/

namespace Sys2Proof.Config

/-- PSR.impl (spec 10_state.md R60). -/
def impl : BitVec 4 := 1#4

/-- PSR.ver (R61). -/
def ver : BitVec 4 := 1#4

/-- The device identification register of the test access port (60_exceptions.md R607). -/
def idcode : Word := 0x0B6400B1#32

/-- FREE: where a delayed transfer couple whose first member is a conditional branch goes, a word address
(43_control_transfer.md R365; log 19). -/
opaque coupleTarget (k : Nat) : BitVec 30

/-- FREE: how many of the newest stores the prefetch path has not seen when it holds a word they changed
(20_memory.md R142; log 17). -/
opaque unseenStores (k : Nat) : Nat

/-- FREE: whether the first word of a doubleword store was written when the second one is refused (R124; log 16). -/
opaque firstWordWritten (k : Nat) : Bool

/-- FREE: the condition codes a branch finds that follows its compare at once, where that is left open (43_control_transfer.md
R378; log 33). -/
opaque earlyCc (k : Nat) : BitVec 2

/-- FREE: the words a queue store delivers when the unit's queue is empty (41_fp_cp_load_store.md R273; log 31). -/
opaque emptyQueueWord (k : Nat) (slot : Nat) : Word

/-- FREE: a word an attached unit drives when the spec does not say what it drives (R447 item 4; log 30). -/
opaque unitWord (k : Nat) (slot : Nat) : Word

/-- FREE: a register of an attached unit after something the spec leaves to the unit (R491, R447; log 30, 32). -/
opaque unitReg (k : Nat) (n : Nat) : Word

/-- FREE: a unit's state register after something the spec leaves to the unit (log 30, 32). -/
opaque unitStatus (k : Nat) : Word

/-- FREE: a unit's condition codes after something the spec leaves to the unit (log 30, 32). -/
opaque unitCc (k : Nat) : BitVec 2

/-- FREE: whether a unit then has an exception pending (log 30, 32). -/
opaque unitPending (k : Nat) : Bool

/-- FREE: whether a unit then is in exception mode (log 30, 32). -/
opaque unitMode (k : Nat) : Bool

/-- FREE: the entries (address, instruction) of a unit's queue then (log 30, 32). -/
opaque unitQueue (k : Nat) : List (Word × Word)

/-- FREE, one value for the chip: which bits of the FSR besides fcc software can write (41_fp_cp_load_store.md R267; log
29). -/
opaque fsrWritable : Word

/-- FREE, one value for the coprocessor: which bits of the CSR besides its condition codes software can write (R282, R264;
log 29). -/
opaque csrWritable : Word

/-- FREE, one value for the chip: the number of the lower bit of the two-bit fcc field of the FSR, whose place the spec
does not give (R264; log 29). -/
opaque fccPlace : Fin 31

/-- FREE, one value for the coprocessor: the same of the condition code field of the CSR (R264, R282; log 29). -/
opaque cccPlace : Fin 31

/-- FREE: what an FPop delivers where the spec does not determine it: rounding, NaNs, exceptions, reserved fields, by
opf, FSR and operands (45_fpop_cpop.md R480; log 28). -/
opaque fpopResult (k : Nat) (opf : BitVec 9) (fsr : Word) (a b : BitVec 128) : BitVec 128

/-- FREE: the condition codes of a compare where the spec does not determine them (R480; log 28). -/
opaque fpopCc (k : Nat) (opf : BitVec 9) (fsr : Word) (a b : BitVec 128) : BitVec 2

/-- FREE: whether the FPU ends an FPop in a floating-point exception: its enables are FSR fields the spec does not
give, and it may leave any FPop unfinished or unimplemented (R480, R482; log 28). -/
opaque fpopRaises (k : Nat) (opf : BitVec 9) (fsr : Word) (a b : BitVec 128) : Bool

/-- FREE: the FSR after an FPop (R480; log 29). -/
opaque fsrAfter (k : Nat) (opf : BitVec 9) (fsr : Word) (a b : BitVec 128) : Word

/-- FREE: whether a SETHI to r[0] that is neither the NOP nor a check word signals a program flow error
(60_exceptions.md R592 point b; log 24). -/
opaque oddSethiTraps (k : Nat) : Bool

/-- FREE: the checksum after such a SETHI (log 24). -/
opaque oddSethiSum (k : Nat) : Word

/-- FREE: whether the next check is disabled after such a SETHI (log 24). -/
opaque oddSethiSkip (k : Nat) : Bool

/-- FREE: the checksum after an annulled word whose fetch failed (R594; log 24). -/
opaque unfetchedSum (k : Nat) : Word

/-- FREE: what a register holds after a load whose data had a parity error (R581; log 34). -/
opaque lateLoadWord (k : Nat) (slot : Nat) : Word

/-- FREE: whether HWERROR is asserted when an FBfcc finds a parity error on the FPU's signals (60_exceptions.md R582;
log 35). -/
opaque fiparHwerror (k : Nat) : Bool

end Sys2Proof.Config
end

