-- ==== Sys2Proof/Syntax.lean ====
section
/-! DEFINITION. The instructions: one constructor per row of spec/opcode_table.json, named after its mnemonic, with the
operand fields the machine uses. Fields the spec calls ignored (30_encoding.md R157) are no operands. -/

namespace Sys2Proof

/-- The second operand of a format 3 integer instruction (30_encoding.md R160): `reg` when i = 0, `imm` when i = 1. -/
inductive Operand2 where
  | reg (rs2 : RegNum)
  | imm (simm13 : BitVec 13)
deriving DecidableEq, Repr

/-- The count of a shift (R162): r[rs2] when i = 0, the shcnt field when i = 1. -/
inductive ShiftSource where
  | reg (rs2 : RegNum)
  | imm (shcnt : BitVec 5)
deriving DecidableEq, Repr

/-- The source fields of an alternate-space instruction (40_load_store.md R224): the asi and rs2 of its one legal form,
or the 13 low bits of a word with i = 1, which raises illegal_instruction (R240). -/
inductive AltSource where
  | reg (asi : Asi) (rs2 : RegNum)
  | imm (low13 : BitVec 13)
deriving DecidableEq, Repr

/-- An instruction: one constructor per row of the opcode table (R170 to R176, R156). -/
inductive Instr where
  -- integer load and store (40_load_store.md)
  | ld (rd : RegNum) (rs1 : RegNum) (src : Operand2)
  | ldub (rd : RegNum) (rs1 : RegNum) (src : Operand2)
  | lduh (rd : RegNum) (rs1 : RegNum) (src : Operand2)
  | ldd (rd : RegNum) (rs1 : RegNum) (src : Operand2)
  | st (rd : RegNum) (rs1 : RegNum) (src : Operand2)
  | stb (rd : RegNum) (rs1 : RegNum) (src : Operand2)
  | sth (rd : RegNum) (rs1 : RegNum) (src : Operand2)
  | std (rd : RegNum) (rs1 : RegNum) (src : Operand2)
  | ldsb (rd : RegNum) (rs1 : RegNum) (src : Operand2)
  | ldsh (rd : RegNum) (rs1 : RegNum) (src : Operand2)
  | ldstub (rd : RegNum) (rs1 : RegNum) (src : Operand2)
  | swap (rd : RegNum) (rs1 : RegNum) (src : Operand2)
  | lda (rd : RegNum) (rs1 : RegNum) (src : AltSource)
  | lduba (rd : RegNum) (rs1 : RegNum) (src : AltSource)
  | lduha (rd : RegNum) (rs1 : RegNum) (src : AltSource)
  | ldda (rd : RegNum) (rs1 : RegNum) (src : AltSource)
  | sta (rd : RegNum) (rs1 : RegNum) (src : AltSource)
  | stba (rd : RegNum) (rs1 : RegNum) (src : AltSource)
  | stha (rd : RegNum) (rs1 : RegNum) (src : AltSource)
  | stda (rd : RegNum) (rs1 : RegNum) (src : AltSource)
  | ldsba (rd : RegNum) (rs1 : RegNum) (src : AltSource)
  | ldsha (rd : RegNum) (rs1 : RegNum) (src : AltSource)
  | ldstuba (rd : RegNum) (rs1 : RegNum) (src : AltSource)
  | swapa (rd : RegNum) (rs1 : RegNum) (src : AltSource)
  -- floating-point and coprocessor load and store (41_fp_cp_load_store.md)
  | ldf (rd : RegNum) (rs1 : RegNum) (src : Operand2)
  | ldfsr (rs1 : RegNum) (src : Operand2)
  | lddf (rd : RegNum) (rs1 : RegNum) (src : Operand2)
  | stf (rd : RegNum) (rs1 : RegNum) (src : Operand2)
  | stfsr (rs1 : RegNum) (src : Operand2)
  | stdfq (rs1 : RegNum) (src : Operand2)
  | stdf (rd : RegNum) (rs1 : RegNum) (src : Operand2)
  | ldc (rd : RegNum) (rs1 : RegNum) (src : Operand2)
  | ldcsr (rs1 : RegNum) (src : Operand2)
  | lddc (rd : RegNum) (rs1 : RegNum) (src : Operand2)
  | stc (rd : RegNum) (rs1 : RegNum) (src : Operand2)
  | stcsr (rs1 : RegNum) (src : Operand2)
  | stdcq (rs1 : RegNum) (src : Operand2)
  | stdc (rd : RegNum) (rs1 : RegNum) (src : Operand2)
  -- arithmetic, logical, shift (42_arithmetic_logical_shift.md)
  | add (rd : RegNum) (rs1 : RegNum) (src : Operand2)
  | and (rd : RegNum) (rs1 : RegNum) (src : Operand2)
  | or (rd : RegNum) (rs1 : RegNum) (src : Operand2)
  | xor (rd : RegNum) (rs1 : RegNum) (src : Operand2)
  | sub (rd : RegNum) (rs1 : RegNum) (src : Operand2)
  | andn (rd : RegNum) (rs1 : RegNum) (src : Operand2)
  | orn (rd : RegNum) (rs1 : RegNum) (src : Operand2)
  | xnor (rd : RegNum) (rs1 : RegNum) (src : Operand2)
  | addx (rd : RegNum) (rs1 : RegNum) (src : Operand2)
  | subx (rd : RegNum) (rs1 : RegNum) (src : Operand2)
  | addcc (rd : RegNum) (rs1 : RegNum) (src : Operand2)
  | andcc (rd : RegNum) (rs1 : RegNum) (src : Operand2)
  | orcc (rd : RegNum) (rs1 : RegNum) (src : Operand2)
  | xorcc (rd : RegNum) (rs1 : RegNum) (src : Operand2)
  | subcc (rd : RegNum) (rs1 : RegNum) (src : Operand2)
  | andncc (rd : RegNum) (rs1 : RegNum) (src : Operand2)
  | orncc (rd : RegNum) (rs1 : RegNum) (src : Operand2)
  | xnorcc (rd : RegNum) (rs1 : RegNum) (src : Operand2)
  | addxcc (rd : RegNum) (rs1 : RegNum) (src : Operand2)
  | subxcc (rd : RegNum) (rs1 : RegNum) (src : Operand2)
  | taddcc (rd : RegNum) (rs1 : RegNum) (src : Operand2)
  | tsubcc (rd : RegNum) (rs1 : RegNum) (src : Operand2)
  | taddcctv (rd : RegNum) (rs1 : RegNum) (src : Operand2)
  | tsubcctv (rd : RegNum) (rs1 : RegNum) (src : Operand2)
  | mulscc (rd : RegNum) (rs1 : RegNum) (src : Operand2)
  | sll (rd : RegNum) (rs1 : RegNum) (cnt : ShiftSource)
  | srl (rd : RegNum) (rs1 : RegNum) (cnt : ShiftSource)
  | sra (rd : RegNum) (rs1 : RegNum) (cnt : ShiftSource)
  | sethi (rd : RegNum) (imm22 : BitVec 22)
  -- control transfer (43_control_transfer.md)
  | bn (a : Bool) (disp22 : BitVec 22)
  | be (a : Bool) (disp22 : BitVec 22)
  | ble (a : Bool) (disp22 : BitVec 22)
  | bl (a : Bool) (disp22 : BitVec 22)
  | bleu (a : Bool) (disp22 : BitVec 22)
  | bcs (a : Bool) (disp22 : BitVec 22)
  | bneg (a : Bool) (disp22 : BitVec 22)
  | bvs (a : Bool) (disp22 : BitVec 22)
  | ba (a : Bool) (disp22 : BitVec 22)
  | bne (a : Bool) (disp22 : BitVec 22)
  | bg (a : Bool) (disp22 : BitVec 22)
  | bge (a : Bool) (disp22 : BitVec 22)
  | bgu (a : Bool) (disp22 : BitVec 22)
  | bcc (a : Bool) (disp22 : BitVec 22)
  | bpos (a : Bool) (disp22 : BitVec 22)
  | bvc (a : Bool) (disp22 : BitVec 22)
  | fbn (a : Bool) (disp22 : BitVec 22)
  | fbne (a : Bool) (disp22 : BitVec 22)
  | fblg (a : Bool) (disp22 : BitVec 22)
  | fbul (a : Bool) (disp22 : BitVec 22)
  | fbl (a : Bool) (disp22 : BitVec 22)
  | fbug (a : Bool) (disp22 : BitVec 22)
  | fbg (a : Bool) (disp22 : BitVec 22)
  | fbu (a : Bool) (disp22 : BitVec 22)
  | fba (a : Bool) (disp22 : BitVec 22)
  | fbe (a : Bool) (disp22 : BitVec 22)
  | fbue (a : Bool) (disp22 : BitVec 22)
  | fbge (a : Bool) (disp22 : BitVec 22)
  | fbuge (a : Bool) (disp22 : BitVec 22)
  | fble (a : Bool) (disp22 : BitVec 22)
  | fbule (a : Bool) (disp22 : BitVec 22)
  | fbo (a : Bool) (disp22 : BitVec 22)
  | cbn (a : Bool) (disp22 : BitVec 22)
  | cb123 (a : Bool) (disp22 : BitVec 22)
  | cb12 (a : Bool) (disp22 : BitVec 22)
  | cb13 (a : Bool) (disp22 : BitVec 22)
  | cb1 (a : Bool) (disp22 : BitVec 22)
  | cb23 (a : Bool) (disp22 : BitVec 22)
  | cb2 (a : Bool) (disp22 : BitVec 22)
  | cb3 (a : Bool) (disp22 : BitVec 22)
  | cba (a : Bool) (disp22 : BitVec 22)
  | cb0 (a : Bool) (disp22 : BitVec 22)
  | cb03 (a : Bool) (disp22 : BitVec 22)
  | cb02 (a : Bool) (disp22 : BitVec 22)
  | cb023 (a : Bool) (disp22 : BitVec 22)
  | cb01 (a : Bool) (disp22 : BitVec 22)
  | cb013 (a : Bool) (disp22 : BitVec 22)
  | cb012 (a : Bool) (disp22 : BitVec 22)
  | call (disp30 : BitVec 30)
  | jmpl (rd : RegNum) (rs1 : RegNum) (src : Operand2)
  | rett (rs1 : RegNum) (src : Operand2)
  | tn (rs1 : RegNum) (src : Operand2)
  | te (rs1 : RegNum) (src : Operand2)
  | tle (rs1 : RegNum) (src : Operand2)
  | tl (rs1 : RegNum) (src : Operand2)
  | tleu (rs1 : RegNum) (src : Operand2)
  | tcs (rs1 : RegNum) (src : Operand2)
  | tneg (rs1 : RegNum) (src : Operand2)
  | tvs (rs1 : RegNum) (src : Operand2)
  | ta (rs1 : RegNum) (src : Operand2)
  | tne (rs1 : RegNum) (src : Operand2)
  | tg (rs1 : RegNum) (src : Operand2)
  | tge (rs1 : RegNum) (src : Operand2)
  | tgu (rs1 : RegNum) (src : Operand2)
  | tcc (rs1 : RegNum) (src : Operand2)
  | tpos (rs1 : RegNum) (src : Operand2)
  | tvc (rs1 : RegNum) (src : Operand2)
  | save (rd : RegNum) (rs1 : RegNum) (src : Operand2)
  | restore (rd : RegNum) (rs1 : RegNum) (src : Operand2)
  -- control registers (44_control_registers.md)
  | rdy (rd : RegNum)
  | rdpsr (rd : RegNum)
  | rdwim (rd : RegNum)
  | rdtbr (rd : RegNum)
  | wry (rs1 : RegNum) (src : Operand2)
  | wrpsr (rs1 : RegNum) (src : Operand2)
  | wrwim (rs1 : RegNum) (src : Operand2)
  | wrtbr (rs1 : RegNum) (src : Operand2)
  -- floating-point-operate and coprocessor-operate (45_fpop_cpop.md)
  | fmovs (rd : RegNum) (rs2 : RegNum)
  | fnegs (rd : RegNum) (rs2 : RegNum)
  | fabss (rd : RegNum) (rs2 : RegNum)
  | fsqrts (rd : RegNum) (rs2 : RegNum)
  | fsqrtd (rd : RegNum) (rs2 : RegNum)
  | fsqrtx (rd : RegNum) (rs2 : RegNum)
  | fadds (rd : RegNum) (rs1 : RegNum) (rs2 : RegNum)
  | faddd (rd : RegNum) (rs1 : RegNum) (rs2 : RegNum)
  | faddx (rd : RegNum) (rs1 : RegNum) (rs2 : RegNum)
  | fsubs (rd : RegNum) (rs1 : RegNum) (rs2 : RegNum)
  | fsubd (rd : RegNum) (rs1 : RegNum) (rs2 : RegNum)
  | fsubx (rd : RegNum) (rs1 : RegNum) (rs2 : RegNum)
  | fmuls (rd : RegNum) (rs1 : RegNum) (rs2 : RegNum)
  | fmuld (rd : RegNum) (rs1 : RegNum) (rs2 : RegNum)
  | fmulx (rd : RegNum) (rs1 : RegNum) (rs2 : RegNum)
  | fdivs (rd : RegNum) (rs1 : RegNum) (rs2 : RegNum)
  | fdivd (rd : RegNum) (rs1 : RegNum) (rs2 : RegNum)
  | fdivx (rd : RegNum) (rs1 : RegNum) (rs2 : RegNum)
  | fitos (rd : RegNum) (rs2 : RegNum)
  | fdtos (rd : RegNum) (rs2 : RegNum)
  | fxtos (rd : RegNum) (rs2 : RegNum)
  | fitod (rd : RegNum) (rs2 : RegNum)
  | fstod (rd : RegNum) (rs2 : RegNum)
  | fxtod (rd : RegNum) (rs2 : RegNum)
  | fitox (rd : RegNum) (rs2 : RegNum)
  | fstox (rd : RegNum) (rs2 : RegNum)
  | fdtox (rd : RegNum) (rs2 : RegNum)
  | fstoi (rd : RegNum) (rs2 : RegNum)
  | fdtoi (rd : RegNum) (rs2 : RegNum)
  | fxtoi (rd : RegNum) (rs2 : RegNum)
  | fcmps (rs1 : RegNum) (rs2 : RegNum)
  | fcmpd (rs1 : RegNum) (rs2 : RegNum)
  | fcmpx (rs1 : RegNum) (rs2 : RegNum)
  | fcmpes (rs1 : RegNum) (rs2 : RegNum)
  | fcmped (rs1 : RegNum) (rs2 : RegNum)
  | fcmpex (rs1 : RegNum) (rs2 : RegNum)
  | fpop1Reserved (rd : RegNum) (rs1 : RegNum) (opf : BitVec 9) (rs2 : RegNum)
  | fpop2Reserved (rd : RegNum) (rs1 : RegNum) (opf : BitVec 9) (rs2 : RegNum)
  | cpop1 (rd : RegNum) (rs1 : RegNum) (opc : BitVec 9) (rs2 : RegNum)
  | cpop2 (rd : RegNum) (rs1 : RegNum) (opc : BitVec 9) (rs2 : RegNum)
  -- miscellaneous (46_misc.md)
  | unimp (const22 : BitVec 22)
  | iflush (rs1 : RegNum) (src : Operand2)
  -- reserved encodings (30_encoding.md R154, R165, R166; 46_misc.md R501)
  | reservedOp00_001
  | reservedOp00_011
  | reservedOp00_101
  | reservedOp10_001001
  | reservedOp10_001010
  | reservedOp10_001011
  | reservedOp10_001101
  | reservedOp10_001110
  | reservedOp10_001111
  | reservedOp10_011001
  | reservedOp10_011010
  | reservedOp10_011011
  | reservedOp10_011101
  | reservedOp10_011110
  | reservedOp10_011111
  | reservedOp10_101100
  | reservedOp10_101101
  | reservedOp10_101110
  | reservedOp10_101111
  | reservedOp10_111110
  | reservedOp10_111111
  | reservedOp11_001000
  | reservedOp11_001011
  | reservedOp11_001100
  | reservedOp11_001110
  | reservedOp11_011000
  | reservedOp11_011011
  | reservedOp11_011100
  | reservedOp11_011110
  | reservedOp11_100010
  | reservedOp11_101000
  | reservedOp11_101001
  | reservedOp11_101010
  | reservedOp11_101011
  | reservedOp11_101100
  | reservedOp11_101101
  | reservedOp11_101110
  | reservedOp11_101111
  | reservedOp11_110010
  | reservedOp11_111000
  | reservedOp11_111001
  | reservedOp11_111010
  | reservedOp11_111011
  | reservedOp11_111100
  | reservedOp11_111101
  | reservedOp11_111110
  | reservedOp11_111111
deriving DecidableEq, Repr

end Sys2Proof
end

