-- ==== Sys2Proof/WellFormed.lean ====
section
/-! DEFINITION. Which terms of `Instr` stand for an encoding: the two constructors for reserved opf values must not
carry an assigned one (spec 45_fpop_cpop.md R482); every other term has an encoding. -/

namespace Sys2Proof

/-- The opf values assigned under FPop1 (spec 30_encoding.md R168). -/
def fpop1Assigned : List (BitVec 9) :=
  [0x001#9, 0x005#9, 0x009#9, 0x029#9, 0x02a#9, 0x02b#9, 0x041#9, 0x042#9,
   0x043#9, 0x045#9, 0x046#9, 0x047#9, 0x049#9, 0x04a#9, 0x04b#9, 0x04d#9,
   0x04e#9, 0x04f#9, 0x0c4#9, 0x0c6#9, 0x0c7#9, 0x0c8#9, 0x0c9#9, 0x0cb#9,
   0x0cc#9, 0x0cd#9, 0x0ce#9, 0x0d1#9, 0x0d2#9, 0x0d3#9]

/-- The opf values assigned under FPop2 (R169). -/
def fpop2Assigned : List (BitVec 9) :=
  [0x051#9, 0x052#9, 0x053#9, 0x055#9, 0x056#9, 0x057#9]

/-- `i` is the decoding of some word: a term of a reserved-opf constructor carries a reserved opf (R482). -/
def WellFormed : Instr → Bool
  | .fpop1Reserved _ _ opf _ => !fpop1Assigned.contains opf
  | .fpop2Reserved _ _ opf _ => !fpop2Assigned.contains opf
  | _ => true

end Sys2Proof
end

