-- ==== Sys2Proof/Decode.lean ====
section
/-! DEFINITION. Decoding, total on any word (spec 30_encoding.md R155), and after it the encoder, both written from the
formats of R151 and the opcode maps R154, R165, R166, R168, R169. Byte-order and field helpers stand here too. -/

namespace Sys2Proof

/-! ## Fields (R152) -/

/-- op, bits 31:30. -/
def opField (w : Word) : BitVec 2 := w.extractLsb' 30 2
/-- rd, bits 29:25. -/
def rdField (w : Word) : RegNum := w.extractLsb' 25 5
/-- a, bit 29. -/
def aField (w : Word) : Bool := w.getLsbD 29
/-- cond, bits 28:25. -/
def condField (w : Word) : BitVec 4 := w.extractLsb' 25 4
/-- op2, bits 24:22. -/
def op2Field (w : Word) : BitVec 3 := w.extractLsb' 22 3
/-- op3, bits 24:19. -/
def op3Field (w : Word) : BitVec 6 := w.extractLsb' 19 6
/-- rs1, bits 18:14. -/
def rs1Field (w : Word) : RegNum := w.extractLsb' 14 5
/-- i, bit 13. -/
def iField (w : Word) : Bool := w.getLsbD 13
/-- asi, bits 12:5. -/
def asiField (w : Word) : Asi := w.extractLsb' 5 8
/-- simm13, bits 12:0. -/
def simm13Field (w : Word) : BitVec 13 := w.extractLsb' 0 13
/-- opf and opc, bits 13:5. -/
def opfField (w : Word) : BitVec 9 := w.extractLsb' 5 9
/-- rs2 and shcnt, bits 4:0. -/
def rs2Field (w : Word) : RegNum := w.extractLsb' 0 5
/-- imm22, disp22 and const22, bits 21:0. -/
def imm22Field (w : Word) : BitVec 22 := w.extractLsb' 0 22
/-- disp30, bits 29:0. -/
def disp30Field (w : Word) : BitVec 30 := w.extractLsb' 0 30

/-- The second operand (R160); bits 12:5 are ignored when i = 0 (R157). -/
def operand2Field (w : Word) : Operand2 := if iField w then .imm (simm13Field w) else .reg (rs2Field w)
/-- The shift count (R162); bits 12:5 are ignored. -/
def shiftField (w : Word) : ShiftSource := if iField w then .imm (rs2Field w) else .reg (rs2Field w)
/-- The source of an alternate-space instruction (R240 keeps its i = 1 form apart). -/
def altField (w : Word) : AltSource := if iField w then .imm (simm13Field w) else .reg (asiField w) (rs2Field w)

/-! ## Decoding -/

/-- Bicc by cond (43_control_transfer.md R371). -/
def decodeBicc (cond : BitVec 4) (a : Bool) (disp22 : BitVec 22) : Instr :=
  match cond with
  | 0b0000#4 => .bn a disp22
  | 0b0001#4 => .be a disp22
  | 0b0010#4 => .ble a disp22
  | 0b0011#4 => .bl a disp22
  | 0b0100#4 => .bleu a disp22
  | 0b0101#4 => .bcs a disp22
  | 0b0110#4 => .bneg a disp22
  | 0b0111#4 => .bvs a disp22
  | 0b1000#4 => .ba a disp22
  | 0b1001#4 => .bne a disp22
  | 0b1010#4 => .bg a disp22
  | 0b1011#4 => .bge a disp22
  | 0b1100#4 => .bgu a disp22
  | 0b1101#4 => .bcc a disp22
  | 0b1110#4 => .bpos a disp22
  | _ => .bvc a disp22

/-- FBfcc by cond (R375). -/
def decodeFBfcc (cond : BitVec 4) (a : Bool) (disp22 : BitVec 22) : Instr :=
  match cond with
  | 0b0000#4 => .fbn a disp22
  | 0b0001#4 => .fbne a disp22
  | 0b0010#4 => .fblg a disp22
  | 0b0011#4 => .fbul a disp22
  | 0b0100#4 => .fbl a disp22
  | 0b0101#4 => .fbug a disp22
  | 0b0110#4 => .fbg a disp22
  | 0b0111#4 => .fbu a disp22
  | 0b1000#4 => .fba a disp22
  | 0b1001#4 => .fbe a disp22
  | 0b1010#4 => .fbue a disp22
  | 0b1011#4 => .fbge a disp22
  | 0b1100#4 => .fbuge a disp22
  | 0b1101#4 => .fble a disp22
  | 0b1110#4 => .fbule a disp22
  | _ => .fbo a disp22

/-- CBccc by cond (R377). -/
def decodeCBccc (cond : BitVec 4) (a : Bool) (disp22 : BitVec 22) : Instr :=
  match cond with
  | 0b0000#4 => .cbn a disp22
  | 0b0001#4 => .cb123 a disp22
  | 0b0010#4 => .cb12 a disp22
  | 0b0011#4 => .cb13 a disp22
  | 0b0100#4 => .cb1 a disp22
  | 0b0101#4 => .cb23 a disp22
  | 0b0110#4 => .cb2 a disp22
  | 0b0111#4 => .cb3 a disp22
  | 0b1000#4 => .cba a disp22
  | 0b1001#4 => .cb0 a disp22
  | 0b1010#4 => .cb03 a disp22
  | 0b1011#4 => .cb02 a disp22
  | 0b1100#4 => .cb023 a disp22
  | 0b1101#4 => .cb01 a disp22
  | 0b1110#4 => .cb013 a disp22
  | _ => .cb012 a disp22

/-- Ticc by cond (R371, R396). -/
def decodeTicc (cond : BitVec 4) (rs1 : RegNum) (src : Operand2) : Instr :=
  match cond with
  | 0b0000#4 => .tn rs1 src
  | 0b0001#4 => .te rs1 src
  | 0b0010#4 => .tle rs1 src
  | 0b0011#4 => .tl rs1 src
  | 0b0100#4 => .tleu rs1 src
  | 0b0101#4 => .tcs rs1 src
  | 0b0110#4 => .tneg rs1 src
  | 0b0111#4 => .tvs rs1 src
  | 0b1000#4 => .ta rs1 src
  | 0b1001#4 => .tne rs1 src
  | 0b1010#4 => .tg rs1 src
  | 0b1011#4 => .tge rs1 src
  | 0b1100#4 => .tgu rs1 src
  | 0b1101#4 => .tcc rs1 src
  | 0b1110#4 => .tpos rs1 src
  | _ => .tvc rs1 src

/-- FPop1 by opf (R168); every other value is reserved (45_fpop_cpop.md R482). -/
def decodeFPop1 (rd rs1 : RegNum) (opf : BitVec 9) (rs2 : RegNum) : Instr :=
  match opf with
  | 0x001#9 => .fmovs rd rs2
  | 0x005#9 => .fnegs rd rs2
  | 0x009#9 => .fabss rd rs2
  | 0x029#9 => .fsqrts rd rs2
  | 0x02a#9 => .fsqrtd rd rs2
  | 0x02b#9 => .fsqrtx rd rs2
  | 0x041#9 => .fadds rd rs1 rs2
  | 0x042#9 => .faddd rd rs1 rs2
  | 0x043#9 => .faddx rd rs1 rs2
  | 0x045#9 => .fsubs rd rs1 rs2
  | 0x046#9 => .fsubd rd rs1 rs2
  | 0x047#9 => .fsubx rd rs1 rs2
  | 0x049#9 => .fmuls rd rs1 rs2
  | 0x04a#9 => .fmuld rd rs1 rs2
  | 0x04b#9 => .fmulx rd rs1 rs2
  | 0x04d#9 => .fdivs rd rs1 rs2
  | 0x04e#9 => .fdivd rd rs1 rs2
  | 0x04f#9 => .fdivx rd rs1 rs2
  | 0x0c4#9 => .fitos rd rs2
  | 0x0c6#9 => .fdtos rd rs2
  | 0x0c7#9 => .fxtos rd rs2
  | 0x0c8#9 => .fitod rd rs2
  | 0x0c9#9 => .fstod rd rs2
  | 0x0cb#9 => .fxtod rd rs2
  | 0x0cc#9 => .fitox rd rs2
  | 0x0cd#9 => .fstox rd rs2
  | 0x0ce#9 => .fdtox rd rs2
  | 0x0d1#9 => .fstoi rd rs2
  | 0x0d2#9 => .fdtoi rd rs2
  | 0x0d3#9 => .fxtoi rd rs2
  | _ => .fpop1Reserved rd rs1 opf rs2

/-- FPop2 by opf (R169). -/
def decodeFPop2 (rd rs1 : RegNum) (opf : BitVec 9) (rs2 : RegNum) : Instr :=
  match opf with
  | 0x051#9 => .fcmps rs1 rs2
  | 0x052#9 => .fcmpd rs1 rs2
  | 0x053#9 => .fcmpx rs1 rs2
  | 0x055#9 => .fcmpes rs1 rs2
  | 0x056#9 => .fcmped rs1 rs2
  | 0x057#9 => .fcmpex rs1 rs2
  | _ => .fpop2Reserved rd rs1 opf rs2

/-- Format 2, op = 00, by op2 (R154). -/
def decodeOp00 (w : Word) : Instr :=
  match op2Field w with
  | 0b000#3 => .unimp (imm22Field w)
  | 0b001#3 => .reservedOp00_001
  | 0b010#3 => decodeBicc (condField w) (aField w) (imm22Field w)
  | 0b011#3 => .reservedOp00_011
  | 0b100#3 => .sethi (rdField w) (imm22Field w)
  | 0b101#3 => .reservedOp00_101
  | 0b110#3 => decodeFBfcc (condField w) (aField w) (imm22Field w)
  | _ => decodeCBccc (condField w) (aField w) (imm22Field w)

/-- Format 3, op = 10, by op3 (R165). -/
def decodeOp10 (w : Word) : Instr :=
  match op3Field w with
  | 0b000000#6 => .add (rdField w) (rs1Field w) (operand2Field w)
  | 0b000001#6 => .and (rdField w) (rs1Field w) (operand2Field w)
  | 0b000010#6 => .or (rdField w) (rs1Field w) (operand2Field w)
  | 0b000011#6 => .xor (rdField w) (rs1Field w) (operand2Field w)
  | 0b000100#6 => .sub (rdField w) (rs1Field w) (operand2Field w)
  | 0b000101#6 => .andn (rdField w) (rs1Field w) (operand2Field w)
  | 0b000110#6 => .orn (rdField w) (rs1Field w) (operand2Field w)
  | 0b000111#6 => .xnor (rdField w) (rs1Field w) (operand2Field w)
  | 0b001000#6 => .addx (rdField w) (rs1Field w) (operand2Field w)
  | 0b001001#6 => .reservedOp10_001001
  | 0b001010#6 => .reservedOp10_001010
  | 0b001011#6 => .reservedOp10_001011
  | 0b001100#6 => .subx (rdField w) (rs1Field w) (operand2Field w)
  | 0b001101#6 => .reservedOp10_001101
  | 0b001110#6 => .reservedOp10_001110
  | 0b001111#6 => .reservedOp10_001111
  | 0b010000#6 => .addcc (rdField w) (rs1Field w) (operand2Field w)
  | 0b010001#6 => .andcc (rdField w) (rs1Field w) (operand2Field w)
  | 0b010010#6 => .orcc (rdField w) (rs1Field w) (operand2Field w)
  | 0b010011#6 => .xorcc (rdField w) (rs1Field w) (operand2Field w)
  | 0b010100#6 => .subcc (rdField w) (rs1Field w) (operand2Field w)
  | 0b010101#6 => .andncc (rdField w) (rs1Field w) (operand2Field w)
  | 0b010110#6 => .orncc (rdField w) (rs1Field w) (operand2Field w)
  | 0b010111#6 => .xnorcc (rdField w) (rs1Field w) (operand2Field w)
  | 0b011000#6 => .addxcc (rdField w) (rs1Field w) (operand2Field w)
  | 0b011001#6 => .reservedOp10_011001
  | 0b011010#6 => .reservedOp10_011010
  | 0b011011#6 => .reservedOp10_011011
  | 0b011100#6 => .subxcc (rdField w) (rs1Field w) (operand2Field w)
  | 0b011101#6 => .reservedOp10_011101
  | 0b011110#6 => .reservedOp10_011110
  | 0b011111#6 => .reservedOp10_011111
  | 0b100000#6 => .taddcc (rdField w) (rs1Field w) (operand2Field w)
  | 0b100001#6 => .tsubcc (rdField w) (rs1Field w) (operand2Field w)
  | 0b100010#6 => .taddcctv (rdField w) (rs1Field w) (operand2Field w)
  | 0b100011#6 => .tsubcctv (rdField w) (rs1Field w) (operand2Field w)
  | 0b100100#6 => .mulscc (rdField w) (rs1Field w) (operand2Field w)
  | 0b100101#6 => .sll (rdField w) (rs1Field w) (shiftField w)
  | 0b100110#6 => .srl (rdField w) (rs1Field w) (shiftField w)
  | 0b100111#6 => .sra (rdField w) (rs1Field w) (shiftField w)
  | 0b101000#6 => .rdy (rdField w)
  | 0b101001#6 => .rdpsr (rdField w)
  | 0b101010#6 => .rdwim (rdField w)
  | 0b101011#6 => .rdtbr (rdField w)
  | 0b101100#6 => .reservedOp10_101100
  | 0b101101#6 => .reservedOp10_101101
  | 0b101110#6 => .reservedOp10_101110
  | 0b101111#6 => .reservedOp10_101111
  | 0b110000#6 => .wry (rs1Field w) (operand2Field w)
  | 0b110001#6 => .wrpsr (rs1Field w) (operand2Field w)
  | 0b110010#6 => .wrwim (rs1Field w) (operand2Field w)
  | 0b110011#6 => .wrtbr (rs1Field w) (operand2Field w)
  | 0b110100#6 => decodeFPop1 (rdField w) (rs1Field w) (opfField w) (rs2Field w)
  | 0b110101#6 => decodeFPop2 (rdField w) (rs1Field w) (opfField w) (rs2Field w)
  | 0b110110#6 => .cpop1 (rdField w) (rs1Field w) (opfField w) (rs2Field w)
  | 0b110111#6 => .cpop2 (rdField w) (rs1Field w) (opfField w) (rs2Field w)
  | 0b111000#6 => .jmpl (rdField w) (rs1Field w) (operand2Field w)
  | 0b111001#6 => .rett (rs1Field w) (operand2Field w)
  | 0b111010#6 => decodeTicc (condField w) (rs1Field w) (operand2Field w)
  | 0b111011#6 => .iflush (rs1Field w) (operand2Field w)
  | 0b111100#6 => .save (rdField w) (rs1Field w) (operand2Field w)
  | 0b111101#6 => .restore (rdField w) (rs1Field w) (operand2Field w)
  | 0b111110#6 => .reservedOp10_111110
  | _ => .reservedOp10_111111

/-- Format 3, op = 11, by op3 (R166). -/
def decodeOp11 (w : Word) : Instr :=
  match op3Field w with
  | 0b000000#6 => .ld (rdField w) (rs1Field w) (operand2Field w)
  | 0b000001#6 => .ldub (rdField w) (rs1Field w) (operand2Field w)
  | 0b000010#6 => .lduh (rdField w) (rs1Field w) (operand2Field w)
  | 0b000011#6 => .ldd (rdField w) (rs1Field w) (operand2Field w)
  | 0b000100#6 => .st (rdField w) (rs1Field w) (operand2Field w)
  | 0b000101#6 => .stb (rdField w) (rs1Field w) (operand2Field w)
  | 0b000110#6 => .sth (rdField w) (rs1Field w) (operand2Field w)
  | 0b000111#6 => .std (rdField w) (rs1Field w) (operand2Field w)
  | 0b001000#6 => .reservedOp11_001000
  | 0b001001#6 => .ldsb (rdField w) (rs1Field w) (operand2Field w)
  | 0b001010#6 => .ldsh (rdField w) (rs1Field w) (operand2Field w)
  | 0b001011#6 => .reservedOp11_001011
  | 0b001100#6 => .reservedOp11_001100
  | 0b001101#6 => .ldstub (rdField w) (rs1Field w) (operand2Field w)
  | 0b001110#6 => .reservedOp11_001110
  | 0b001111#6 => .swap (rdField w) (rs1Field w) (operand2Field w)
  | 0b010000#6 => .lda (rdField w) (rs1Field w) (altField w)
  | 0b010001#6 => .lduba (rdField w) (rs1Field w) (altField w)
  | 0b010010#6 => .lduha (rdField w) (rs1Field w) (altField w)
  | 0b010011#6 => .ldda (rdField w) (rs1Field w) (altField w)
  | 0b010100#6 => .sta (rdField w) (rs1Field w) (altField w)
  | 0b010101#6 => .stba (rdField w) (rs1Field w) (altField w)
  | 0b010110#6 => .stha (rdField w) (rs1Field w) (altField w)
  | 0b010111#6 => .stda (rdField w) (rs1Field w) (altField w)
  | 0b011000#6 => .reservedOp11_011000
  | 0b011001#6 => .ldsba (rdField w) (rs1Field w) (altField w)
  | 0b011010#6 => .ldsha (rdField w) (rs1Field w) (altField w)
  | 0b011011#6 => .reservedOp11_011011
  | 0b011100#6 => .reservedOp11_011100
  | 0b011101#6 => .ldstuba (rdField w) (rs1Field w) (altField w)
  | 0b011110#6 => .reservedOp11_011110
  | 0b011111#6 => .swapa (rdField w) (rs1Field w) (altField w)
  | 0b100000#6 => .ldf (rdField w) (rs1Field w) (operand2Field w)
  | 0b100001#6 => .ldfsr (rs1Field w) (operand2Field w)
  | 0b100010#6 => .reservedOp11_100010
  | 0b100011#6 => .lddf (rdField w) (rs1Field w) (operand2Field w)
  | 0b100100#6 => .stf (rdField w) (rs1Field w) (operand2Field w)
  | 0b100101#6 => .stfsr (rs1Field w) (operand2Field w)
  | 0b100110#6 => .stdfq (rs1Field w) (operand2Field w)
  | 0b100111#6 => .stdf (rdField w) (rs1Field w) (operand2Field w)
  | 0b101000#6 => .reservedOp11_101000
  | 0b101001#6 => .reservedOp11_101001
  | 0b101010#6 => .reservedOp11_101010
  | 0b101011#6 => .reservedOp11_101011
  | 0b101100#6 => .reservedOp11_101100
  | 0b101101#6 => .reservedOp11_101101
  | 0b101110#6 => .reservedOp11_101110
  | 0b101111#6 => .reservedOp11_101111
  | 0b110000#6 => .ldc (rdField w) (rs1Field w) (operand2Field w)
  | 0b110001#6 => .ldcsr (rs1Field w) (operand2Field w)
  | 0b110010#6 => .reservedOp11_110010
  | 0b110011#6 => .lddc (rdField w) (rs1Field w) (operand2Field w)
  | 0b110100#6 => .stc (rdField w) (rs1Field w) (operand2Field w)
  | 0b110101#6 => .stcsr (rs1Field w) (operand2Field w)
  | 0b110110#6 => .stdcq (rs1Field w) (operand2Field w)
  | 0b110111#6 => .stdc (rdField w) (rs1Field w) (operand2Field w)
  | 0b111000#6 => .reservedOp11_111000
  | 0b111001#6 => .reservedOp11_111001
  | 0b111010#6 => .reservedOp11_111010
  | 0b111011#6 => .reservedOp11_111011
  | 0b111100#6 => .reservedOp11_111100
  | 0b111101#6 => .reservedOp11_111101
  | 0b111110#6 => .reservedOp11_111110
  | _ => .reservedOp11_111111

/-- The instruction a word stands for (R155). Total: every word is an instruction or a reserved encoding, which is a
constructor of its own. -/
def decode (w : Word) : Instr :=
  match opField w with
  | 0b00#2 => decodeOp00 w
  | 0b01#2 => .call (disp30Field w)
  | 0b10#2 => decodeOp10 w
  | _ => decodeOp11 w

/-- The word at four bytes, the first the most significant (20_memory.md R105). -/
def wordOfBytes (b0 b1 b2 b3 : Byte) : Word := b0 ++ b1 ++ b2 ++ b3

/-- The bytes of a word as memory holds them (R105). -/
def bytesOfWord (w : Word) : List Byte :=
  [w.extractLsb' 24 8, w.extractLsb' 16 8, w.extractLsb' 8 8, w.extractLsb' 0 8]

/-- Why a sequence of bytes is no instruction: it is not one word long (R150). -/
inductive DecodeError where
  | notOneWord
deriving DecidableEq, Repr

/-- Decoding of the bytes of an instruction in memory (R150, R105). -/
def decodeBytes : List Byte → Except DecodeError Instr
  | [b0, b1, b2, b3] => .ok (decode (wordOfBytes b0 b1 b2 b3))
  | _ => .error .notOneWord

/-- The instruction the decoder reads from the bits `w` of a row of the opcode table: one word, stored in its byte
order. -/
def decodeTableWord (_nbits w : Nat) : Option Instr :=
  match decodeBytes (bytesOfWord (BitVec.ofNat 32 w)) with
  | .ok i => some i
  | .error _ => none

/-! ## Encoding -/

/-- Format 1 (R151). -/
def format1 (disp30 : BitVec 30) : Word := 0b01#2 ++ disp30
/-- Format 2 with an rd field. -/
def format2 (rd : RegNum) (op2 : BitVec 3) (imm22 : BitVec 22) : Word := 0b00#2 ++ rd ++ op2 ++ imm22
/-- Format 2 of a branch. -/
def branchWord (a : Bool) (cond : BitVec 4) (op2 : BitVec 3) (disp22 : BitVec 22) : Word :=
  format2 (BitVec.ofBool a ++ cond) op2 disp22
/-- Format 3; `low` holds bits 13:0. -/
def format3 (op : BitVec 2) (rd : RegNum) (op3 : BitVec 6) (rs1 : RegNum) (low : BitVec 14) : Word :=
  op ++ rd ++ op3 ++ rs1 ++ low
/-- Bits 13:0 of FPops and CPops. -/
def opfLow (opf : BitVec 9) (rs2 : RegNum) : BitVec 14 := opf ++ rs2
/-- Bits 13:0 of an integer instruction; the ignored bits are 0. -/
def operand2Low : Operand2 → BitVec 14
  | .reg rs2 => 0#9 ++ rs2
  | .imm simm13 => 1#1 ++ simm13
/-- Bits 13:0 of a shift; the ignored bits are 0. -/
def shiftLow : ShiftSource → BitVec 14
  | .reg rs2 => 0#9 ++ rs2
  | .imm shcnt => 1#1 ++ 0#8 ++ shcnt
/-- Bits 13:0 of an alternate-space instruction. -/
def altLow : AltSource → BitVec 14
  | .reg asi rs2 => 0#1 ++ asi ++ rs2
  | .imm low13 => 1#1 ++ low13

/-- The word of an instruction, every ignored field 0 (R157). -/
def encode : Instr → Word
  | .ld rd rs1 src => format3 0b11#2 rd 0b000000#6 rs1 (operand2Low src)
  | .ldub rd rs1 src => format3 0b11#2 rd 0b000001#6 rs1 (operand2Low src)
  | .lduh rd rs1 src => format3 0b11#2 rd 0b000010#6 rs1 (operand2Low src)
  | .ldd rd rs1 src => format3 0b11#2 rd 0b000011#6 rs1 (operand2Low src)
  | .st rd rs1 src => format3 0b11#2 rd 0b000100#6 rs1 (operand2Low src)
  | .stb rd rs1 src => format3 0b11#2 rd 0b000101#6 rs1 (operand2Low src)
  | .sth rd rs1 src => format3 0b11#2 rd 0b000110#6 rs1 (operand2Low src)
  | .std rd rs1 src => format3 0b11#2 rd 0b000111#6 rs1 (operand2Low src)
  | .ldsb rd rs1 src => format3 0b11#2 rd 0b001001#6 rs1 (operand2Low src)
  | .ldsh rd rs1 src => format3 0b11#2 rd 0b001010#6 rs1 (operand2Low src)
  | .ldstub rd rs1 src => format3 0b11#2 rd 0b001101#6 rs1 (operand2Low src)
  | .swap rd rs1 src => format3 0b11#2 rd 0b001111#6 rs1 (operand2Low src)
  | .lda rd rs1 src => format3 0b11#2 rd 0b010000#6 rs1 (altLow src)
  | .lduba rd rs1 src => format3 0b11#2 rd 0b010001#6 rs1 (altLow src)
  | .lduha rd rs1 src => format3 0b11#2 rd 0b010010#6 rs1 (altLow src)
  | .ldda rd rs1 src => format3 0b11#2 rd 0b010011#6 rs1 (altLow src)
  | .sta rd rs1 src => format3 0b11#2 rd 0b010100#6 rs1 (altLow src)
  | .stba rd rs1 src => format3 0b11#2 rd 0b010101#6 rs1 (altLow src)
  | .stha rd rs1 src => format3 0b11#2 rd 0b010110#6 rs1 (altLow src)
  | .stda rd rs1 src => format3 0b11#2 rd 0b010111#6 rs1 (altLow src)
  | .ldsba rd rs1 src => format3 0b11#2 rd 0b011001#6 rs1 (altLow src)
  | .ldsha rd rs1 src => format3 0b11#2 rd 0b011010#6 rs1 (altLow src)
  | .ldstuba rd rs1 src => format3 0b11#2 rd 0b011101#6 rs1 (altLow src)
  | .swapa rd rs1 src => format3 0b11#2 rd 0b011111#6 rs1 (altLow src)
  | .ldf rd rs1 src => format3 0b11#2 rd 0b100000#6 rs1 (operand2Low src)
  | .ldfsr rs1 src => format3 0b11#2 0#5 0b100001#6 rs1 (operand2Low src)
  | .lddf rd rs1 src => format3 0b11#2 rd 0b100011#6 rs1 (operand2Low src)
  | .stf rd rs1 src => format3 0b11#2 rd 0b100100#6 rs1 (operand2Low src)
  | .stfsr rs1 src => format3 0b11#2 0#5 0b100101#6 rs1 (operand2Low src)
  | .stdfq rs1 src => format3 0b11#2 0#5 0b100110#6 rs1 (operand2Low src)
  | .stdf rd rs1 src => format3 0b11#2 rd 0b100111#6 rs1 (operand2Low src)
  | .ldc rd rs1 src => format3 0b11#2 rd 0b110000#6 rs1 (operand2Low src)
  | .ldcsr rs1 src => format3 0b11#2 0#5 0b110001#6 rs1 (operand2Low src)
  | .lddc rd rs1 src => format3 0b11#2 rd 0b110011#6 rs1 (operand2Low src)
  | .stc rd rs1 src => format3 0b11#2 rd 0b110100#6 rs1 (operand2Low src)
  | .stcsr rs1 src => format3 0b11#2 0#5 0b110101#6 rs1 (operand2Low src)
  | .stdcq rs1 src => format3 0b11#2 0#5 0b110110#6 rs1 (operand2Low src)
  | .stdc rd rs1 src => format3 0b11#2 rd 0b110111#6 rs1 (operand2Low src)
  | .add rd rs1 src => format3 0b10#2 rd 0b000000#6 rs1 (operand2Low src)
  | .and rd rs1 src => format3 0b10#2 rd 0b000001#6 rs1 (operand2Low src)
  | .or rd rs1 src => format3 0b10#2 rd 0b000010#6 rs1 (operand2Low src)
  | .xor rd rs1 src => format3 0b10#2 rd 0b000011#6 rs1 (operand2Low src)
  | .sub rd rs1 src => format3 0b10#2 rd 0b000100#6 rs1 (operand2Low src)
  | .andn rd rs1 src => format3 0b10#2 rd 0b000101#6 rs1 (operand2Low src)
  | .orn rd rs1 src => format3 0b10#2 rd 0b000110#6 rs1 (operand2Low src)
  | .xnor rd rs1 src => format3 0b10#2 rd 0b000111#6 rs1 (operand2Low src)
  | .addx rd rs1 src => format3 0b10#2 rd 0b001000#6 rs1 (operand2Low src)
  | .subx rd rs1 src => format3 0b10#2 rd 0b001100#6 rs1 (operand2Low src)
  | .addcc rd rs1 src => format3 0b10#2 rd 0b010000#6 rs1 (operand2Low src)
  | .andcc rd rs1 src => format3 0b10#2 rd 0b010001#6 rs1 (operand2Low src)
  | .orcc rd rs1 src => format3 0b10#2 rd 0b010010#6 rs1 (operand2Low src)
  | .xorcc rd rs1 src => format3 0b10#2 rd 0b010011#6 rs1 (operand2Low src)
  | .subcc rd rs1 src => format3 0b10#2 rd 0b010100#6 rs1 (operand2Low src)
  | .andncc rd rs1 src => format3 0b10#2 rd 0b010101#6 rs1 (operand2Low src)
  | .orncc rd rs1 src => format3 0b10#2 rd 0b010110#6 rs1 (operand2Low src)
  | .xnorcc rd rs1 src => format3 0b10#2 rd 0b010111#6 rs1 (operand2Low src)
  | .addxcc rd rs1 src => format3 0b10#2 rd 0b011000#6 rs1 (operand2Low src)
  | .subxcc rd rs1 src => format3 0b10#2 rd 0b011100#6 rs1 (operand2Low src)
  | .taddcc rd rs1 src => format3 0b10#2 rd 0b100000#6 rs1 (operand2Low src)
  | .tsubcc rd rs1 src => format3 0b10#2 rd 0b100001#6 rs1 (operand2Low src)
  | .taddcctv rd rs1 src => format3 0b10#2 rd 0b100010#6 rs1 (operand2Low src)
  | .tsubcctv rd rs1 src => format3 0b10#2 rd 0b100011#6 rs1 (operand2Low src)
  | .mulscc rd rs1 src => format3 0b10#2 rd 0b100100#6 rs1 (operand2Low src)
  | .sll rd rs1 cnt => format3 0b10#2 rd 0b100101#6 rs1 (shiftLow cnt)
  | .srl rd rs1 cnt => format3 0b10#2 rd 0b100110#6 rs1 (shiftLow cnt)
  | .sra rd rs1 cnt => format3 0b10#2 rd 0b100111#6 rs1 (shiftLow cnt)
  | .sethi rd imm22 => format2 rd 0b100#3 imm22
  | .bn a disp22 => branchWord a 0b0000#4 0b010#3 disp22
  | .be a disp22 => branchWord a 0b0001#4 0b010#3 disp22
  | .ble a disp22 => branchWord a 0b0010#4 0b010#3 disp22
  | .bl a disp22 => branchWord a 0b0011#4 0b010#3 disp22
  | .bleu a disp22 => branchWord a 0b0100#4 0b010#3 disp22
  | .bcs a disp22 => branchWord a 0b0101#4 0b010#3 disp22
  | .bneg a disp22 => branchWord a 0b0110#4 0b010#3 disp22
  | .bvs a disp22 => branchWord a 0b0111#4 0b010#3 disp22
  | .ba a disp22 => branchWord a 0b1000#4 0b010#3 disp22
  | .bne a disp22 => branchWord a 0b1001#4 0b010#3 disp22
  | .bg a disp22 => branchWord a 0b1010#4 0b010#3 disp22
  | .bge a disp22 => branchWord a 0b1011#4 0b010#3 disp22
  | .bgu a disp22 => branchWord a 0b1100#4 0b010#3 disp22
  | .bcc a disp22 => branchWord a 0b1101#4 0b010#3 disp22
  | .bpos a disp22 => branchWord a 0b1110#4 0b010#3 disp22
  | .bvc a disp22 => branchWord a 0b1111#4 0b010#3 disp22
  | .fbn a disp22 => branchWord a 0b0000#4 0b110#3 disp22
  | .fbne a disp22 => branchWord a 0b0001#4 0b110#3 disp22
  | .fblg a disp22 => branchWord a 0b0010#4 0b110#3 disp22
  | .fbul a disp22 => branchWord a 0b0011#4 0b110#3 disp22
  | .fbl a disp22 => branchWord a 0b0100#4 0b110#3 disp22
  | .fbug a disp22 => branchWord a 0b0101#4 0b110#3 disp22
  | .fbg a disp22 => branchWord a 0b0110#4 0b110#3 disp22
  | .fbu a disp22 => branchWord a 0b0111#4 0b110#3 disp22
  | .fba a disp22 => branchWord a 0b1000#4 0b110#3 disp22
  | .fbe a disp22 => branchWord a 0b1001#4 0b110#3 disp22
  | .fbue a disp22 => branchWord a 0b1010#4 0b110#3 disp22
  | .fbge a disp22 => branchWord a 0b1011#4 0b110#3 disp22
  | .fbuge a disp22 => branchWord a 0b1100#4 0b110#3 disp22
  | .fble a disp22 => branchWord a 0b1101#4 0b110#3 disp22
  | .fbule a disp22 => branchWord a 0b1110#4 0b110#3 disp22
  | .fbo a disp22 => branchWord a 0b1111#4 0b110#3 disp22
  | .cbn a disp22 => branchWord a 0b0000#4 0b111#3 disp22
  | .cb123 a disp22 => branchWord a 0b0001#4 0b111#3 disp22
  | .cb12 a disp22 => branchWord a 0b0010#4 0b111#3 disp22
  | .cb13 a disp22 => branchWord a 0b0011#4 0b111#3 disp22
  | .cb1 a disp22 => branchWord a 0b0100#4 0b111#3 disp22
  | .cb23 a disp22 => branchWord a 0b0101#4 0b111#3 disp22
  | .cb2 a disp22 => branchWord a 0b0110#4 0b111#3 disp22
  | .cb3 a disp22 => branchWord a 0b0111#4 0b111#3 disp22
  | .cba a disp22 => branchWord a 0b1000#4 0b111#3 disp22
  | .cb0 a disp22 => branchWord a 0b1001#4 0b111#3 disp22
  | .cb03 a disp22 => branchWord a 0b1010#4 0b111#3 disp22
  | .cb02 a disp22 => branchWord a 0b1011#4 0b111#3 disp22
  | .cb023 a disp22 => branchWord a 0b1100#4 0b111#3 disp22
  | .cb01 a disp22 => branchWord a 0b1101#4 0b111#3 disp22
  | .cb013 a disp22 => branchWord a 0b1110#4 0b111#3 disp22
  | .cb012 a disp22 => branchWord a 0b1111#4 0b111#3 disp22
  | .call disp30 => format1 disp30
  | .jmpl rd rs1 src => format3 0b10#2 rd 0b111000#6 rs1 (operand2Low src)
  | .rett rs1 src => format3 0b10#2 0#5 0b111001#6 rs1 (operand2Low src)
  | .tn rs1 src => format3 0b10#2 (0#1 ++ 0b0000#4) 0b111010#6 rs1 (operand2Low src)
  | .te rs1 src => format3 0b10#2 (0#1 ++ 0b0001#4) 0b111010#6 rs1 (operand2Low src)
  | .tle rs1 src => format3 0b10#2 (0#1 ++ 0b0010#4) 0b111010#6 rs1 (operand2Low src)
  | .tl rs1 src => format3 0b10#2 (0#1 ++ 0b0011#4) 0b111010#6 rs1 (operand2Low src)
  | .tleu rs1 src => format3 0b10#2 (0#1 ++ 0b0100#4) 0b111010#6 rs1 (operand2Low src)
  | .tcs rs1 src => format3 0b10#2 (0#1 ++ 0b0101#4) 0b111010#6 rs1 (operand2Low src)
  | .tneg rs1 src => format3 0b10#2 (0#1 ++ 0b0110#4) 0b111010#6 rs1 (operand2Low src)
  | .tvs rs1 src => format3 0b10#2 (0#1 ++ 0b0111#4) 0b111010#6 rs1 (operand2Low src)
  | .ta rs1 src => format3 0b10#2 (0#1 ++ 0b1000#4) 0b111010#6 rs1 (operand2Low src)
  | .tne rs1 src => format3 0b10#2 (0#1 ++ 0b1001#4) 0b111010#6 rs1 (operand2Low src)
  | .tg rs1 src => format3 0b10#2 (0#1 ++ 0b1010#4) 0b111010#6 rs1 (operand2Low src)
  | .tge rs1 src => format3 0b10#2 (0#1 ++ 0b1011#4) 0b111010#6 rs1 (operand2Low src)
  | .tgu rs1 src => format3 0b10#2 (0#1 ++ 0b1100#4) 0b111010#6 rs1 (operand2Low src)
  | .tcc rs1 src => format3 0b10#2 (0#1 ++ 0b1101#4) 0b111010#6 rs1 (operand2Low src)
  | .tpos rs1 src => format3 0b10#2 (0#1 ++ 0b1110#4) 0b111010#6 rs1 (operand2Low src)
  | .tvc rs1 src => format3 0b10#2 (0#1 ++ 0b1111#4) 0b111010#6 rs1 (operand2Low src)
  | .save rd rs1 src => format3 0b10#2 rd 0b111100#6 rs1 (operand2Low src)
  | .restore rd rs1 src => format3 0b10#2 rd 0b111101#6 rs1 (operand2Low src)
  | .rdy rd => format3 0b10#2 rd 0b101000#6 0#5 0#14
  | .rdpsr rd => format3 0b10#2 rd 0b101001#6 0#5 0#14
  | .rdwim rd => format3 0b10#2 rd 0b101010#6 0#5 0#14
  | .rdtbr rd => format3 0b10#2 rd 0b101011#6 0#5 0#14
  | .wry rs1 src => format3 0b10#2 0#5 0b110000#6 rs1 (operand2Low src)
  | .wrpsr rs1 src => format3 0b10#2 0#5 0b110001#6 rs1 (operand2Low src)
  | .wrwim rs1 src => format3 0b10#2 0#5 0b110010#6 rs1 (operand2Low src)
  | .wrtbr rs1 src => format3 0b10#2 0#5 0b110011#6 rs1 (operand2Low src)
  | .fmovs rd rs2 => format3 0b10#2 rd 0b110100#6 0#5 (opfLow 0x001#9 rs2)
  | .fnegs rd rs2 => format3 0b10#2 rd 0b110100#6 0#5 (opfLow 0x005#9 rs2)
  | .fabss rd rs2 => format3 0b10#2 rd 0b110100#6 0#5 (opfLow 0x009#9 rs2)
  | .fsqrts rd rs2 => format3 0b10#2 rd 0b110100#6 0#5 (opfLow 0x029#9 rs2)
  | .fsqrtd rd rs2 => format3 0b10#2 rd 0b110100#6 0#5 (opfLow 0x02a#9 rs2)
  | .fsqrtx rd rs2 => format3 0b10#2 rd 0b110100#6 0#5 (opfLow 0x02b#9 rs2)
  | .fadds rd rs1 rs2 => format3 0b10#2 rd 0b110100#6 rs1 (opfLow 0x041#9 rs2)
  | .faddd rd rs1 rs2 => format3 0b10#2 rd 0b110100#6 rs1 (opfLow 0x042#9 rs2)
  | .faddx rd rs1 rs2 => format3 0b10#2 rd 0b110100#6 rs1 (opfLow 0x043#9 rs2)
  | .fsubs rd rs1 rs2 => format3 0b10#2 rd 0b110100#6 rs1 (opfLow 0x045#9 rs2)
  | .fsubd rd rs1 rs2 => format3 0b10#2 rd 0b110100#6 rs1 (opfLow 0x046#9 rs2)
  | .fsubx rd rs1 rs2 => format3 0b10#2 rd 0b110100#6 rs1 (opfLow 0x047#9 rs2)
  | .fmuls rd rs1 rs2 => format3 0b10#2 rd 0b110100#6 rs1 (opfLow 0x049#9 rs2)
  | .fmuld rd rs1 rs2 => format3 0b10#2 rd 0b110100#6 rs1 (opfLow 0x04a#9 rs2)
  | .fmulx rd rs1 rs2 => format3 0b10#2 rd 0b110100#6 rs1 (opfLow 0x04b#9 rs2)
  | .fdivs rd rs1 rs2 => format3 0b10#2 rd 0b110100#6 rs1 (opfLow 0x04d#9 rs2)
  | .fdivd rd rs1 rs2 => format3 0b10#2 rd 0b110100#6 rs1 (opfLow 0x04e#9 rs2)
  | .fdivx rd rs1 rs2 => format3 0b10#2 rd 0b110100#6 rs1 (opfLow 0x04f#9 rs2)
  | .fitos rd rs2 => format3 0b10#2 rd 0b110100#6 0#5 (opfLow 0x0c4#9 rs2)
  | .fdtos rd rs2 => format3 0b10#2 rd 0b110100#6 0#5 (opfLow 0x0c6#9 rs2)
  | .fxtos rd rs2 => format3 0b10#2 rd 0b110100#6 0#5 (opfLow 0x0c7#9 rs2)
  | .fitod rd rs2 => format3 0b10#2 rd 0b110100#6 0#5 (opfLow 0x0c8#9 rs2)
  | .fstod rd rs2 => format3 0b10#2 rd 0b110100#6 0#5 (opfLow 0x0c9#9 rs2)
  | .fxtod rd rs2 => format3 0b10#2 rd 0b110100#6 0#5 (opfLow 0x0cb#9 rs2)
  | .fitox rd rs2 => format3 0b10#2 rd 0b110100#6 0#5 (opfLow 0x0cc#9 rs2)
  | .fstox rd rs2 => format3 0b10#2 rd 0b110100#6 0#5 (opfLow 0x0cd#9 rs2)
  | .fdtox rd rs2 => format3 0b10#2 rd 0b110100#6 0#5 (opfLow 0x0ce#9 rs2)
  | .fstoi rd rs2 => format3 0b10#2 rd 0b110100#6 0#5 (opfLow 0x0d1#9 rs2)
  | .fdtoi rd rs2 => format3 0b10#2 rd 0b110100#6 0#5 (opfLow 0x0d2#9 rs2)
  | .fxtoi rd rs2 => format3 0b10#2 rd 0b110100#6 0#5 (opfLow 0x0d3#9 rs2)
  | .fcmps rs1 rs2 => format3 0b10#2 0#5 0b110101#6 rs1 (opfLow 0x051#9 rs2)
  | .fcmpd rs1 rs2 => format3 0b10#2 0#5 0b110101#6 rs1 (opfLow 0x052#9 rs2)
  | .fcmpx rs1 rs2 => format3 0b10#2 0#5 0b110101#6 rs1 (opfLow 0x053#9 rs2)
  | .fcmpes rs1 rs2 => format3 0b10#2 0#5 0b110101#6 rs1 (opfLow 0x055#9 rs2)
  | .fcmped rs1 rs2 => format3 0b10#2 0#5 0b110101#6 rs1 (opfLow 0x056#9 rs2)
  | .fcmpex rs1 rs2 => format3 0b10#2 0#5 0b110101#6 rs1 (opfLow 0x057#9 rs2)
  | .fpop1Reserved rd rs1 opf rs2 => format3 0b10#2 rd 0b110100#6 rs1 (opfLow opf rs2)
  | .fpop2Reserved rd rs1 opf rs2 => format3 0b10#2 rd 0b110101#6 rs1 (opfLow opf rs2)
  | .cpop1 rd rs1 opc rs2 => format3 0b10#2 rd 0b110110#6 rs1 (opfLow opc rs2)
  | .cpop2 rd rs1 opc rs2 => format3 0b10#2 rd 0b110111#6 rs1 (opfLow opc rs2)
  | .unimp const22 => format2 0#5 0b000#3 const22
  | .iflush rs1 src => format3 0b10#2 0#5 0b111011#6 rs1 (operand2Low src)
  | .reservedOp00_001 => format2 0#5 0b001#3 0#22
  | .reservedOp00_011 => format2 0#5 0b011#3 0#22
  | .reservedOp00_101 => format2 0#5 0b101#3 0#22
  | .reservedOp10_001001 => format3 0b10#2 0#5 0b001001#6 0#5 0#14
  | .reservedOp10_001010 => format3 0b10#2 0#5 0b001010#6 0#5 0#14
  | .reservedOp10_001011 => format3 0b10#2 0#5 0b001011#6 0#5 0#14
  | .reservedOp10_001101 => format3 0b10#2 0#5 0b001101#6 0#5 0#14
  | .reservedOp10_001110 => format3 0b10#2 0#5 0b001110#6 0#5 0#14
  | .reservedOp10_001111 => format3 0b10#2 0#5 0b001111#6 0#5 0#14
  | .reservedOp10_011001 => format3 0b10#2 0#5 0b011001#6 0#5 0#14
  | .reservedOp10_011010 => format3 0b10#2 0#5 0b011010#6 0#5 0#14
  | .reservedOp10_011011 => format3 0b10#2 0#5 0b011011#6 0#5 0#14
  | .reservedOp10_011101 => format3 0b10#2 0#5 0b011101#6 0#5 0#14
  | .reservedOp10_011110 => format3 0b10#2 0#5 0b011110#6 0#5 0#14
  | .reservedOp10_011111 => format3 0b10#2 0#5 0b011111#6 0#5 0#14
  | .reservedOp10_101100 => format3 0b10#2 0#5 0b101100#6 0#5 0#14
  | .reservedOp10_101101 => format3 0b10#2 0#5 0b101101#6 0#5 0#14
  | .reservedOp10_101110 => format3 0b10#2 0#5 0b101110#6 0#5 0#14
  | .reservedOp10_101111 => format3 0b10#2 0#5 0b101111#6 0#5 0#14
  | .reservedOp10_111110 => format3 0b10#2 0#5 0b111110#6 0#5 0#14
  | .reservedOp10_111111 => format3 0b10#2 0#5 0b111111#6 0#5 0#14
  | .reservedOp11_001000 => format3 0b11#2 0#5 0b001000#6 0#5 0#14
  | .reservedOp11_001011 => format3 0b11#2 0#5 0b001011#6 0#5 0#14
  | .reservedOp11_001100 => format3 0b11#2 0#5 0b001100#6 0#5 0#14
  | .reservedOp11_001110 => format3 0b11#2 0#5 0b001110#6 0#5 0#14
  | .reservedOp11_011000 => format3 0b11#2 0#5 0b011000#6 0#5 0#14
  | .reservedOp11_011011 => format3 0b11#2 0#5 0b011011#6 0#5 0#14
  | .reservedOp11_011100 => format3 0b11#2 0#5 0b011100#6 0#5 0#14
  | .reservedOp11_011110 => format3 0b11#2 0#5 0b011110#6 0#5 0#14
  | .reservedOp11_100010 => format3 0b11#2 0#5 0b100010#6 0#5 0#14
  | .reservedOp11_101000 => format3 0b11#2 0#5 0b101000#6 0#5 0#14
  | .reservedOp11_101001 => format3 0b11#2 0#5 0b101001#6 0#5 0#14
  | .reservedOp11_101010 => format3 0b11#2 0#5 0b101010#6 0#5 0#14
  | .reservedOp11_101011 => format3 0b11#2 0#5 0b101011#6 0#5 0#14
  | .reservedOp11_101100 => format3 0b11#2 0#5 0b101100#6 0#5 0#14
  | .reservedOp11_101101 => format3 0b11#2 0#5 0b101101#6 0#5 0#14
  | .reservedOp11_101110 => format3 0b11#2 0#5 0b101110#6 0#5 0#14
  | .reservedOp11_101111 => format3 0b11#2 0#5 0b101111#6 0#5 0#14
  | .reservedOp11_110010 => format3 0b11#2 0#5 0b110010#6 0#5 0#14
  | .reservedOp11_111000 => format3 0b11#2 0#5 0b111000#6 0#5 0#14
  | .reservedOp11_111001 => format3 0b11#2 0#5 0b111001#6 0#5 0#14
  | .reservedOp11_111010 => format3 0b11#2 0#5 0b111010#6 0#5 0#14
  | .reservedOp11_111011 => format3 0b11#2 0#5 0b111011#6 0#5 0#14
  | .reservedOp11_111100 => format3 0b11#2 0#5 0b111100#6 0#5 0#14
  | .reservedOp11_111101 => format3 0b11#2 0#5 0b111101#6 0#5 0#14
  | .reservedOp11_111110 => format3 0b11#2 0#5 0b111110#6 0#5 0#14
  | .reservedOp11_111111 => format3 0b11#2 0#5 0b111111#6 0#5 0#14

end Sys2Proof
end

