-- ==== Sys2Proof/Machine/State.lean ====
section
/-! DEFINITION. The state of the machine as plain data: everything the spec gives the integer unit (10_state.md), the
two attached units as far as the spec names their state (41_fp_cp_load_store.md R262, 45_fpop_cpop.md R442), the memory
and the board's inputs (00_scope.md R10, 70_reset_and_hazards.md R682); the state after reset (10_state.md R95). -/

namespace Sys2Proof.Machine

/-! ## Registers of the integer unit -/

/-- PSR.icc, the integer condition codes (10_state.md R63). -/
structure Icc where
  n : Bool
  z : Bool
  v : Bool
  c : Bool
deriving DecidableEq, Repr

/-- The fields of the PSR that hold state (R56); impl, ver and the reserved bits are constants (R60, R61, R62; log 14,
45). CWP holds an implemented window only, so its bits 4 and 3 are 0 (R69). -/
structure Psr where
  icc : Icc
  ec : Bool
  ef : Bool
  pil : BitVec 4
  s : Bool
  ps : Bool
  et : Bool
  cwp : Window
deriving DecidableEq, Repr

/-- The TBR (R75); its bits 3:0 are the constant 0. -/
structure Tbr where
  tba : BitVec 20
  tt : BitVec 8
deriving DecidableEq, Repr

/-- An r register as it is stored: its word, and whether it was written since power-up, when its parity bit is
initialised (R89; the ghost bit of 60_exceptions.md R585). -/
structure Cell where
  word : Word
  written : Bool
deriving DecidableEq, Repr

/-- The same ghost bits of Y, the WIM and TBA (70_reset_and_hazards.md R632). -/
structure Written where
  y : Bool
  wim : Bool
  tba : Bool
deriving DecidableEq, Repr

/-- A write of a control register (44_control_registers.md R427 to R433), with the value written (R426), of the PSR its
fields. -/
inductive ControlWrite where
  | y (v : Word)
  | psr (p : Psr)
  | wim (v : Word)
  | tbr (v : Word)
deriving DecidableEq, Repr

/-- The registers that the write instructions write, together (R427 to R433). -/
structure Controls where
  psr : Psr
  wim : BitVec 8
  tbr : Tbr
  y : Word
  written : Written
deriving DecidableEq, Repr

/-- A write of a control register not seen yet, and by how many more instructions it is not seen (R435, R647; the
parameter `wrDelay`). -/
structure LateWrite where
  left : Nat
  write : ControlWrite
deriving DecidableEq, Repr

/-- Processor mode (00_scope.md R20, 10_state.md R90). -/
inductive Mode where
  | execute
  | reset
  | error
deriving DecidableEq, Repr

/-- What the instruction executed just before was, as far as a later rule asks: a conditional branch other than B*A
(43_control_transfer.md R365), a floating-point compare or a CPop (R378, 70_reset_and_hazards.md R643). -/
inductive PrevInstr where
  | other
  | condBranch
  | fpCompare
  | cpOperate
deriving DecidableEq, Repr

/-! ## The attached units -/

/-- Which attached unit: the FPU or the second coprocessor. -/
inductive UnitId where
  | fpu
  | cp
deriving DecidableEq, Repr

/-- An entry of a unit's queue: the address of an FPop (CPop) and its word (41_fp_cp_load_store.md R273). -/
structure QueueEntry where
  addr : Word
  instr : Word
deriving DecidableEq, Repr

/-- An attached unit: its 32 registers, its state register (FSR, CSR), its condition codes (FCC, CCC), whether it holds
an exception pending (FEXC, CEXC), whether it is in exception mode, and its queue, front first (10_state.md R80, R81,
R86; 60_exceptions.md R556). The condition code field of the state register is `cc`; `status` holds its other bits, and
what stands in `status` at the place of that field is never read (41_fp_cp_load_store.md R264; `CoUnit.statusWord`). -/
structure CoUnit where
  regs : Vector Word 32
  status : Word
  cc : BitVec 2
  excPending : Bool
  excMode : Bool
  queue : List QueueEntry
deriving DecidableEq, Repr

/-! ## Memory and board -/

/-- Memory: the bytes that differ from what an unlisted address reads as, by key, keys strictly rising. The key of
address `a` of a space numbered `n` is `n * 2^32 + a` (20_memory.md R100, R103; `memKey`). -/
abbrev Memory := List Host.Cell

/-- The width of a bus transaction, SIZE<1:0> (20_memory.md R115); `double` is a word that is half of a doubleword. -/
inductive AccessSize where
  | byte
  | half
  | word
  | double
deriving DecidableEq, Repr

/-- An instruction fetch, a data read or a data write (R115, R122). -/
inductive AccessKind where
  | fetch
  | read
  | write
deriving DecidableEq, Repr

/-- A rule of the memory system: accesses it answers with MEXC (R122), by address range and, where given, by ASI, size,
kind and atomicity (70_reset_and_hazards.md R681). The parameter `memFault` is a list of them. -/
structure MexcRule where
  lo : Word
  hi : Word
  asi : Option Asi
  size : Option AccessSize
  kind : Option AccessKind
  atomic : Option Bool
deriving DecidableEq, Repr

/-- The static input pins (00_scope.md R9). -/
structure Pins where
  fpuPresent : Bool
  cpPresent : Bool
  iflushTraps : Bool
  flowEnabled : Bool
  busParityEnabled : Bool
  checkerMode : Bool
deriving DecidableEq, Repr

/-- The parameters that the spec leaves open and that are neither pins nor inputs of the board (92_eei_decisions.md part 2), and
one of the model's own, `earlyBranchOpen`; no step changes them. -/
structure Params where
  /-- `ctiBase` is 4, otherwise 0: what is added to the address of a branch or CALL before its displacement
  (43_control_transfer.md R361, D8; log 4). -/
  ctiBaseFour : Bool
  /-- `wrDelay`: how many instructions after a write of PSR, WIM, TBR or Y still see the old value
  (44_control_registers.md R435, D12; log 22). -/
  wrDelay : Fin 4
  /-- `fetchAhead`: how many instruction words may have been read ahead of a store (20_memory.md R142, D6; log 17). -/
  fetchAhead : Nat
  /-- `pfcIncludesCheckWord`: a check word counts in the checksum it is compared with (60_exceptions.md R592, D14; log 24). -/
  pfcIncludesCheckWord : Bool
  /-- A branch of a unit right after an instruction that may set the codes it tests finds free codes (43_control_transfer.md
  R378), otherwise the codes just set (45_fpop_cpop.md R449, 70_reset_and_hazards.md R643): the MODEL's own parameter, log 33. -/
  earlyBranchOpen : Bool
deriving DecidableEq, Repr

/-- A place where the integer unit detects an error: wrong parity (60_exceptions.md R581, R582, R584) of a register, a
latch or a bus, seen when the instruction uses it; for `neverWritten`, wrong parity of every register that was not written
since power-up (R585, 70_reset_and_hazards.md R632); for `resetLine`, an error of the two-rail coding of the RESET signal
(R532). -/
inductive UpsetSite where
  | registerFile
  | fetchPc
  | decodePc
  | executePc
  | psr
  | wim
  | tbr
  | y
  | neverWritten
  | fetchData
  | loadData
  | fpuSignals
  | resetLine
deriving DecidableEq, Repr

/-- A write transaction of another bus master (20_memory.md R136): its bytes, one, two or four of them (R115). -/
structure BusWrite where
  asi : Asi
  addr : Word
  bytes : List Byte
deriving DecidableEq, Repr

/-- What a unit that raises FEXC or CEXC shows: its queue (41_fp_cp_load_store.md R273) and its state register, in which
the type of the exception is encoded (45_fpop_cpop.md R481). -/
structure UnitException where
  queue : List QueueEntry
  status : Word
deriving DecidableEq, Repr

/-- What the board does at one step boundary (70_reset_and_hazards.md R682; log 26): RESET and HALT asserted or not, the
interrupt level on IRL<3:0>, detected parity errors, FEXC and CEXC raised with what the unit then shows, new CCC, writes
of other masters, new refusal rules, new levels of the static pins. -/
structure BoardInput where
  reset : Bool
  halt : Bool
  irl : BitVec 4
  upsets : List UpsetSite
  fexc : Option UnitException
  cexc : Option UnitException
  ccc : Option (BitVec 2)
  busWrites : List BusWrite
  mexc : Option (List MexcRule)
  pins : Option Pins
deriving DecidableEq, Repr

/-- A store the prefetch path may not have seen: for how many more instruction words (20_memory.md R142), and the bytes
that stood in memory before it. -/
structure RecentStore where
  left : Nat
  old : List Host.Cell
deriving DecidableEq, Repr

/-! ## The state -/

/-- The state of the machine. -/
structure State where
  /-- g1 to g7 (10_state.md R40, R44); r[0] is no state. -/
  globals : Vector Cell 7
  /-- The window registers W[0] to W[127] (R43). -/
  windows : Vector Cell 128
  /-- Program counter (R50). -/
  pc : Word
  /-- Next program counter (R50). -/
  npc : Word
  /-- Processor state register (R56). -/
  psr : Psr
  /-- Window invalid mask, bits 7:0; the others are hard-wired 0 (R70). -/
  wim : BitVec 8
  /-- Trap base register (R75). -/
  tbr : Tbr
  /-- Y register (R78). -/
  y : Word
  /-- Whether Y, the WIM and TBA were written since power-up (R89, 70_reset_and_hazards.md R632). -/
  written : Written
  /-- Control register writes not seen yet, oldest first (44_control_registers.md R435); empty while `wrDelay` is 0. -/
  late : List LateWrite
  /-- Annul flag (R85). -/
  annul : Bool
  /-- What was executed just before (43_control_transfer.md R365, R378). -/
  prev : PrevInstr
  /-- Processor mode (R90). -/
  mode : Mode
  /-- Program flow control: the checksum (R87, 60_exceptions.md R591). -/
  pfcSum : Word
  /-- Program flow control: the next check is disabled (R87, R595). -/
  pfcSkip : Bool
  /-- The word of the instruction in execution, which the units latch (45_fpop_cpop.md R442; log 47). -/
  ir : Word
  /-- The floating-point unit. -/
  fpu : CoUnit
  /-- The second coprocessor. -/
  cp : CoUnit
  /-- Memory. -/
  mem : Memory
  /-- The memory system's refusal rules (20_memory.md R122). -/
  mexc : List MexcRule
  /-- The alternate spaces the platform supplies besides 0x08 to 0x0B (R103). -/
  asiSpaces : List Asi
  /-- The static pins. -/
  pins : Pins
  /-- The open parameters of the spec. -/
  params : Params
  /-- The interrupt request level (60_exceptions.md R565). -/
  irl : BitVec 4
  /-- The board's inputs still to come; when none is left the board does nothing more. -/
  board : List BoardInput
  /-- Stores the prefetch path may not have seen, newest first (20_memory.md R142; log 17). -/
  recent : List RecentStore
  /-- Output INTACK: the step just made took an interrupt (60_exceptions.md R567; log 39). -/
  intack : Bool
  /-- Output HWERROR (R587; log 39). -/
  hwerror : Bool
  /-- The MODEL's own field: how many free values were drawn (log 43). -/
  free : Nat
deriving DecidableEq, Repr

/-! ## How a step can stop -/

/-- The faults of the machine. -/
inductive Fault where
  /-- Raised by `step` in error mode when the board has no input left: the processor is halted until RESET
  (60_exceptions.md R530, R531). Safe: the hardware stops there too. -/
  | errorModeHalted
deriving DecidableEq, Repr

/-- The refusals of the machine. -/
inductive Refusal where
  /-- An instruction without a meaning in the model, by its mnemonic; raised by `exec`. Safe. -/
  | notModelled (mnemonic : String)
  /-- Raised by `step` when the board changes a static pin while the machine is neither reset nor halted, which the
  spec forbids the board (60_exceptions.md R602, 70_reset_and_hazards.md R682). Safe: no effect is stated for it. -/
  | staticPinChanged
deriving DecidableEq, Repr

/-! ## Reset -/

/-- A unit after power-up; every value is the model's (log 1). -/
def CoUnit.reset : CoUnit :=
  { regs := Vector.replicate 32 0#32, status := 0#32, cc := 0#2, excPending := false, excMode := false, queue := [] }

/-- The static pins of the spec's examples (92_eei_decisions.md D17; log 40). -/
def Pins.reset : Pins :=
  { fpuPresent := true, cpPresent := false, iflushTraps := false, flowEnabled := false, busParityEnabled := true,
    checkerMode := false }

/-- The open parameters at the defaults of the spec's examples (92_eei_decisions.md part 2; log 4, 17, 22, 24); the model's own
at R449's reading, DESIGN CHOICE (log 33). -/
def Params.reset : Params :=
  { ctiBaseFour := false, wrDelay := 0, fetchAhead := 4, pfcIncludesCheckWord := false, earlyBranchOpen := false }

/-- The machine right after power-up and reset (10_state.md R95): PC = 0, nPC = 4, S = 1, ET = 0, no annulled
instruction, checksum 0 and checking enabled, execute mode. Every register R95 leaves undefined holds 0 (log 1);
none of them counts as written (R632); memory lists nothing (log 2); pins and interrupt level are the platform of the
examples (log 40); the level of INTACK, which the spec does not state (91_not_in_source.md N16), is DESIGN CHOICE not
asserted (log 39). -/
def State.reset : State :=
  { globals := Vector.replicate 7 { word := 0#32, written := false }
    windows := Vector.replicate 128 { word := 0#32, written := false }
    pc := 0#32
    npc := 4#32
    psr := { icc := { n := false, z := false, v := false, c := false }, ec := false, ef := false, pil := 0#4, s := true,
             ps := false, et := false, cwp := 0#3 }
    wim := 0#8
    tbr := { tba := 0#20, tt := 0#8 }
    y := 0#32
    written := { y := false, wim := false, tba := false }
    late := []
    annul := false
    prev := .other
    mode := .execute
    pfcSum := 0#32
    pfcSkip := false
    ir := 0#32
    fpu := CoUnit.reset
    cp := CoUnit.reset
    mem := []
    mexc := []
    asiSpaces := []
    pins := Pins.reset
    params := Params.reset
    irl := 0#4
    board := []
    recent := []
    intack := false
    hwerror := false
    free := 0 }

end Sys2Proof.Machine
end

