-- ==== Sys2Proof/Machine/Flags.lean ====
section
/-! DEFINITION. Every flag computation of the spec: the integer condition codes (42_arithmetic_logical_shift.md R302,
R314) and the condition tests of branches and Ticc (43_control_transfer.md R371, R375, R377). -/

namespace Sys2Proof.Machine

/-- icc after an addition of `a` and `b` (and a carry-in) with the 32-bit result `res` (R302, add). PRESUMED formulas
(log 6), unsafe. -/
def addIcc (a b res : Word) : Icc :=
  { n := res.msb
    z := res == 0#32
    v := (a.msb && b.msb && !res.msb) || (!a.msb && !b.msb && res.msb)
    c := (a.msb && b.msb) || (!res.msb && (a.msb || b.msb)) }

/-- icc after a subtraction `a` minus `b` (and a borrow-in) with the result `res` (R302, subtract; log 6). -/
def subIcc (a b res : Word) : Icc :=
  { n := res.msb
    z := res == 0#32
    v := (a.msb && !b.msb && !res.msb) || (!a.msb && b.msb && res.msb)
    c := (!a.msb && b.msb) || (res.msb && (!a.msb || b.msb)) }

/-- icc after a logical instruction (R302, R321). -/
def logicIcc (res : Word) : Icc := { n := res.msb, z := res == 0#32, v := false, c := false }

/-- An operand of a tagged instruction is not tagged data: its two low bits are not 00 (R314). PRESUMED (log 8),
unsafe. -/
def tagBad (a b : Word) : Bool := a.extractLsb' 0 2 != 0#2 || b.extractLsb' 0 2 != 0#2

/-- icc of TADDcc (R314, R315). -/
def taggedAddIcc (a b : Word) : Icc :=
  let f := addIcc a b (a + b)
  { f with v := f.v || tagBad a b }

/-- icc of TSUBcc (R314, R317). -/
def taggedSubIcc (a b : Word) : Icc :=
  let f := subIcc a b (a - b)
  { f with v := f.v || tagBad a b }

/-- A flag as a word, for the carry-in of the X forms (R307, R312). -/
def carryWord (c : Bool) : Word := if c then 1#32 else 0#32

/-- The condition test of Bicc and Ticc (R371). PRESUMED formulas (log 11), unsafe. -/
def iccTest (cond : BitVec 4) (f : Icc) : Bool :=
  match cond with
  | 0b0000#4 => false
  | 0b0001#4 => f.z
  | 0b0010#4 => f.z || (f.n ^^ f.v)
  | 0b0011#4 => f.n ^^ f.v
  | 0b0100#4 => f.c || f.z
  | 0b0101#4 => f.c
  | 0b0110#4 => f.n
  | 0b0111#4 => f.v
  | 0b1000#4 => true
  | 0b1001#4 => !f.z
  | 0b1010#4 => !(f.z || (f.n ^^ f.v))
  | 0b1011#4 => !(f.n ^^ f.v)
  | 0b1100#4 => !(f.c || f.z)
  | 0b1101#4 => !f.c
  | 0b1110#4 => !f.n
  | _ => !f.v

/-- The values of FCC<1:0> or CCC<1:0> for which a branch of condition `cond` is taken (R375, R377). -/
def ccTaken (cond : BitVec 4) : List (BitVec 2) :=
  match cond with
  | 0b0000#4 => []
  | 0b0001#4 => [1#2, 2#2, 3#2]
  | 0b0010#4 => [1#2, 2#2]
  | 0b0011#4 => [1#2, 3#2]
  | 0b0100#4 => [1#2]
  | 0b0101#4 => [2#2, 3#2]
  | 0b0110#4 => [2#2]
  | 0b0111#4 => [3#2]
  | 0b1000#4 => [0#2, 1#2, 2#2, 3#2]
  | 0b1001#4 => [0#2]
  | 0b1010#4 => [0#2, 3#2]
  | 0b1011#4 => [0#2, 2#2]
  | 0b1100#4 => [0#2, 2#2, 3#2]
  | 0b1101#4 => [0#2, 1#2]
  | 0b1110#4 => [0#2, 1#2, 3#2]
  | _ => [0#2, 1#2, 2#2]

/-- The condition test of FBfcc (R375) and CBccc (R377), the same table for both. -/
def ccTest (cond : BitVec 4) (cc : BitVec 2) : Bool := (ccTaken cond).contains cc

end Sys2Proof.Machine
end

