-- ==== Sys2Proof/Machine/Ops.lean ====
section
/-! DEFINITION. The named operations over registers, memory and the attached units; taking a trap (60_exceptions.md
R520 to R530) and what an instruction's end does to the program counters (00_scope.md R22, 43_control_transfer.md R362
to R365). -/

namespace Sys2Proof.Machine

/-! ## r registers -/

/-- A physical register: r[0] is none (10_state.md R44). -/
inductive PhysReg where
  | zero
  | global (i : Fin 7)
  | window (i : Fin 128)
deriving DecidableEq, Repr

/-- The physical register that number `n` names in window `w` (R43). -/
def phys (w : Window) (n : RegNum) : PhysReg :=
  if n = 0#5 then .zero
  else if n.toNat < 8 then .global (Fin.ofNat 7 (n.toNat - 1))
  else .window (Fin.ofNat 128 (16 * w.toNat + (n.toNat - 8)))

/-- Reading a physical register; r[0] reads 0 (R44). -/
def State.readPhys (s : State) : PhysReg → Word
  | .zero => 0#32
  | .global i => s.globals[i].word
  | .window i => s.windows[i].word

/-- Writing a physical register; r[0] discards the value (R44). -/
def State.writePhys (s : State) (p : PhysReg) (v : Word) : State :=
  { s with
    globals := match p with | .global i => s.globals.set i { word := v, written := true } | _ => s.globals
    windows := match p with | .window i => s.windows.set i { word := v, written := true } | _ => s.windows }

/-- A physical register was written since power-up, so that its parity bit is initialised (R89); r[0] is no storage. -/
def State.physWritten (s : State) : PhysReg → Bool
  | .zero => true
  | .global i => s.globals[i].written
  | .window i => s.windows[i].written

/-- r_w[n], register `n` of window `w` (R43). -/
def State.regIn (s : State) (w : Window) (n : RegNum) : Word := s.readPhys (phys w n)

/-- r_w[n] <- v. -/
def State.setRegIn (s : State) (w : Window) (n : RegNum) (v : Word) : State := s.writePhys (phys w n) v

/-- r[n], in the current window (R43). -/
def State.reg (s : State) (n : RegNum) : Word := s.regIn s.psr.cwp n

/-- r[n] <- v, in the current window. -/
def State.setReg (s : State) (n : RegNum) (v : Word) : State := s.setRegIn s.psr.cwp n v

/-- The even register of the pair that `rd` names (R48). -/
def pairEven (rd : RegNum) : RegNum := rd &&& 0b11110#5

/-- The odd register of the pair (R48). -/
def pairOdd (rd : RegNum) : RegNum := rd ||| 1#5

/-! ## Control registers as words -/

/-- The PSR as RDPSR reads it (R56, R60 to R62, 44_control_registers.md R422). -/
def Psr.word (p : Psr) : Word :=
  Config.impl ++ Config.ver ++ BitVec.ofBool p.icc.n ++ BitVec.ofBool p.icc.z ++ BitVec.ofBool p.icc.v ++
    BitVec.ofBool p.icc.c ++ 0#6 ++ BitVec.ofBool p.ec ++ BitVec.ofBool p.ef ++ p.pil ++ BitVec.ofBool p.s ++
    BitVec.ofBool p.ps ++ BitVec.ofBool p.et ++ 0#2 ++ p.cwp

/-- The fields a WRPSR of `v` writes (R431); impl, ver and bits 19:14 of `v` are dropped. -/
def Psr.ofWord (v : Word) : Psr :=
  { icc := { n := v.getLsbD 23, z := v.getLsbD 22, v := v.getLsbD 21, c := v.getLsbD 20 }
    ec := v.getLsbD 13
    ef := v.getLsbD 12
    pil := v.extractLsb' 8 4
    s := v.getLsbD 7
    ps := v.getLsbD 6
    et := v.getLsbD 5
    cwp := v.extractLsb' 0 3 }

/-- The WIM as RDWIM reads it (R70, R423). -/
def State.wimWord (s : State) : Word := 0#24 ++ s.wim

/-- WIM bit `w`: window `w` is invalid (R70). -/
def State.invalidWindow (s : State) (w : Window) : Bool := s.wim.getLsbD w.toNat

/-- The TBR as RDTBR reads it, and the address of a trap's handler (R75, 60_exceptions.md R523). -/
def Tbr.word (t : Tbr) : Word := t.tba ++ t.tt ++ 0#4

/-! ## Writing the control registers -/

/-- The control registers of the state. -/
def State.controls (s : State) : Controls := { psr := s.psr, wim := s.wim, tbr := s.tbr, y := s.y, written := s.written }

/-- The control registers of the state become `c`. -/
def State.setControls (s : State) (c : Controls) : State :=
  { s with psr := c.psr, wim := c.wim, tbr := c.tbr, y := c.y, written := c.written }

/-- A control register receives the value written (44_control_registers.md R427 to R433). -/
def Controls.write (c : Controls) : ControlWrite → Controls
  | .y v => { c with y := v, written := { c.written with y := true } }
  | .psr p => { c with psr := p }
  | .wim v => { c with wim := v.extractLsb' 0 8, written := { c.written with wim := true } }
  | .tbr v =>
    { c with tbr := { c.tbr with tba := v.extractLsb' 12 20 }, written := { c.written with tba := true } }

/-- Several writes, the oldest first. -/
def Controls.writeAll (c : Controls) (ws : List LateWrite) : Controls := ws.foldl (fun c l => c.write l.write) c

/-- A control register is written by an instruction: at once, or seen only `wrDelay` instructions later (R435, R647). -/
def State.writeControl (s : State) (w : ControlWrite) : State :=
  { s.setControls (if s.params.wrDelay = 0 then s.controls.write w else s.controls) with
    late := if s.params.wrDelay = 0 then s.late else s.late ++ [{ left := s.params.wrDelay.val, write := w }] }

/-- A late write after a later instruction changed fields of the PSR by `f`: those stand, not the older write's
(70_reset_and_hazards.md R640; log 22). -/
def LateWrite.afterPsr (f : Psr → Psr) (l : LateWrite) : LateWrite :=
  match l.write with
  | .psr p => { l with write := .psr (f p) }
  | _ => l

/-- A late write that a later write of Y does not make void (R640). -/
def LateWrite.survivesY (l : LateWrite) : Bool :=
  match l.write with
  | .y _ => false
  | _ => true

/-- An instruction other than WRPSR changes fields of the PSR by `f`: at once, and whatever write of it is still late. -/
def State.updatePsr (s : State) (f : Psr → Psr) : State :=
  { s with psr := f s.psr, late := s.late.map (LateWrite.afterPsr f) }

/-- MULScc writes Y: at once, and in place of a write of it that is still late. -/
def State.updateY (s : State) (v : Word) : State :=
  { s with y := v, written := { s.written with y := true }, late := s.late.filter LateWrite.survivesY }

/-- At a step boundary the late writes whose time has come are seen, and the others wait one instruction less (R647). -/
def State.tickLate (s : State) : State :=
  { s.setControls (s.controls.writeAll (s.late.takeWhile fun l => l.left == 0)) with
    late := (s.late.dropWhile fun l => l.left == 0).map fun l => { l with left := l.left - 1 } }

/-- All late writes are seen: a trap annuls the instructions after them, and its handler sees the new values. R647 lets it
see either: DESIGN CHOICE (log 22). -/
def State.settleLate (s : State) : State := { s.setControls (s.controls.writeAll s.late) with late := [] }

/-! ## Memory -/

/-- The ASI of an instruction fetch (20_memory.md R101). -/
def State.instrAsi (s : State) : Asi := if s.psr.s then 0x09#8 else 0x08#8

/-- The ASI of an ordinary data access (R101). -/
def State.dataAsi (s : State) : Asi := if s.psr.s then 0x0B#8 else 0x0A#8

/-- ASIs 0x08 to 0x0B address one and the same array (R103). -/
def commonAsi (asi : Asi) : Bool := 0x08#8 ≤ asi && asi ≤ 0x0B#8

/-- The number of the address space of an ASI: 0 for the common array, one of its own for every other (R103). -/
def spaceOf (asi : Asi) : Nat := if commonAsi asi then 0 else asi.toNat + 1

/-- The memory key of an address of a space. -/
def memKey (asi : Asi) (a : Word) : Nat := spaceOf asi * 2 ^ 32 + a.toNat

/-- What a byte of memory that is not listed reads as. DESIGN CHOICE (log 2), unsafe. -/
def unlistedByte : Byte := 0#8

/-- The byte at a key. -/
def Memory.read (m : Memory) (k : Nat) : Byte :=
  match m with
  | [] => unlistedByte
  | c :: m => if c.1 = k then c.2 else Memory.read m k

/-- A cell in front of a memory, unless it holds what an unlisted byte reads as. -/
def Memory.consCell (k : Nat) (b : Byte) (m : Memory) : Memory := if b = unlistedByte then m else (k, b) :: m

/-- The byte at a key becomes `b`; the form stays canonical. -/
def Memory.write (m : Memory) (k : Nat) (b : Byte) : Memory :=
  match m with
  | [] => Memory.consCell k b []
  | c :: m =>
    if k < c.1 then Memory.consCell k b (c :: m)
    else if c.1 = k then Memory.consCell k b m
    else c :: Memory.write m k b

/-- The canonical form: keys strictly rising, no cell that equals what its key reads as when unlisted. -/
def Memory.wf : Memory → Bool
  | [] => true
  | c :: m => decide (c.2 ≠ unlistedByte) && m.all (fun d => decide (c.1 < d.1)) && Memory.wf m

/-- The byte at an address of a space (R100). -/
def State.readByte (s : State) (asi : Asi) (a : Word) : Byte := s.mem.read (memKey asi a)

/-- The halfword at an address, big-endian (R105). -/
def State.readHalf (s : State) (asi : Asi) (a : Word) : BitVec 16 := s.readByte asi a ++ s.readByte asi (a + 1#32)

/-- The word at an address, big-endian (R105). -/
def State.readWord (s : State) (asi : Asi) (a : Word) : Word :=
  wordOfBytes (s.readByte asi a) (s.readByte asi (a + 1#32)) (s.readByte asi (a + 2#32)) (s.readByte asi (a + 3#32))

/-- The memory after bytes are written at an address and those after it. -/
def Memory.writeBytes (m : Memory) (asi : Asi) (a : Word) : List Byte → Memory
  | [] => m
  | b :: bs => Memory.writeBytes (m.write (memKey asi a) b) asi (a + 1#32) bs

/-- The cells at an address and those after it, as many as `bs` has bytes. -/
def Memory.cellsAt (m : Memory) (asi : Asi) (a : Word) : List Byte → List Host.Cell
  | [] => []
  | _ :: bs => (memKey asi a, m.read (memKey asi a)) :: Memory.cellsAt m asi (a + 1#32) bs

/-- A store of bytes (00_scope.md R14). The prefetch path may have read the words it changes (R142). -/
def State.store (s : State) (asi : Asi) (a : Word) (bs : List Byte) : State :=
  { s with
    mem := s.mem.writeBytes asi a bs
    recent := { left := s.params.fetchAhead, old := s.mem.cellsAt asi a bs } :: s.recent }

/-- The address is not aligned to the access (R110). -/
def misaligned (size : AccessSize) (a : Word) : Bool :=
  match size with
  | .byte => false
  | .half => a.extractLsb' 0 1 != 0#1
  | .word => a.extractLsb' 0 2 != 0#2
  | .double => a.extractLsb' 0 3 != 0#3

/-- A rule of the memory system covers an access (R122). -/
def MexcRule.covers (r : MexcRule) (asi : Asi) (a : Word) (size : AccessSize) (kind : AccessKind) (atomic : Bool) :
    Bool :=
  r.lo ≤ a && a ≤ r.hi && (r.asi == none || r.asi == some asi) && (r.size == none || r.size == some size) &&
    (r.kind == none || r.kind == some kind) && (r.atomic == none || r.atomic == some atomic)

/-- The memory system refuses an access: no such space (R103), or one of its rules covers it (R122). -/
def State.refuses (s : State) (asi : Asi) (a : Word) (size : AccessSize) (kind : AccessKind) (atomic : Bool) : Bool :=
  !(commonAsi asi || s.asiSpaces.contains asi) || s.mexc.any (fun r => r.covers asi a size kind atomic)

/-! ## The attached units -/

/-- The unit. -/
def State.unit (s : State) : UnitId → CoUnit
  | .fpu => s.fpu
  | .cp => s.cp

/-- The unit changes. -/
def State.setUnit (s : State) (u : UnitId) (x : CoUnit) : State :=
  { s with
    fpu := match u with | .fpu => x | .cp => s.fpu
    cp := match u with | .fpu => s.cp | .cp => x }

/-- The unit is disabled or absent: EF, FP pin; EC, CP pin (60_exceptions.md R554, R555). -/
def State.unitDisabled (s : State) : UnitId → Bool
  | .fpu => !s.psr.ef || !s.pins.fpuPresent
  | .cp => !s.psr.ec || !s.pins.cpPresent

/-- The place of the condition code field in a unit's state register: a free constant (41_fp_cp_load_store.md R264; log
29). -/
def ccPlace : UnitId → Fin 31
  | .fpu => Config.fccPlace
  | .cp => Config.cccPlace

/-- The condition code field of a state register (R264). -/
def ccOfStatus (u : UnitId) (status : Word) : BitVec 2 := status.extractLsb' (ccPlace u).val 2

/-- A state register with its condition code field replaced. -/
def withCc (u : UnitId) (status : Word) (cc : BitVec 2) : Word :=
  (status &&& ~~~((3#32) <<< (ccPlace u).val)) ||| (cc.zeroExtend 32 <<< (ccPlace u).val)

/-- The state register as it is read: its condition code field is what the unit shows on FCC or CCC (R264, R272). -/
def CoUnit.statusWord (u : UnitId) (x : CoUnit) : Word := withCc u x.status x.cc

/-- A unit about which the spec says nothing any more: everything in it is a free value (log 30, 38). -/
def unspecifiedUnit (k : Nat) : CoUnit :=
  { regs := Vector.ofFn fun i => Config.unitReg k i.val
    status := Config.unitStatus k
    cc := Config.unitCc k
    excPending := Config.unitPending k
    excMode := Config.unitMode k
    queue := (Config.unitQueue k).map fun e => { addr := e.1, instr := e.2 } }

/-- The unit becomes unspecified. -/
def State.unsettle (s : State) (u : UnitId) : State :=
  { s.setUnit u (unspecifiedUnit s.free) with free := s.free + 1 }

/-- FXACK, CXACK: the pending exception is taken; the unit is in exception mode until its queue is empty
(60_exceptions.md R556). That a unit whose queue is empty then (a coprocessor need not have one, 41_fp_cp_load_store.md
R286) is not in exception mode is DESIGN CHOICE (R557 is silent; log 30), unsafe. -/
def CoUnit.acknowledge (x : CoUnit) : CoUnit := { x with excPending := false, excMode := !x.queue.isEmpty }

/-! ## Traps -/

/-- The traps of 60_exceptions.md R540; the first six are the hardware errors of R580. -/
inductive Trap where
  | imprecise
  | nonRestartable
  | registerFile
  | restartableLate
  | restartablePrecise
  | programFlow
  | instructionAccess
  | illegalInstruction
  | privilegedInstruction
  | fpDisabled
  | cpDisabled
  | windowOverflow
  | windowUnderflow
  | notAligned
  | fpException
  | cpException
  | dataAccess
  | tagOverflow
  | trapInstruction (n : BitVec 7)
  | interrupt (level : BitVec 4)
deriving DecidableEq, Repr

/-- The trap type (R540, R580). -/
def Trap.tt : Trap → BitVec 8
  | .imprecise => 0x64#8
  | .nonRestartable => 0x62#8
  | .registerFile => 0x65#8
  | .restartableLate => 0x63#8
  | .restartablePrecise => 0x61#8
  | .programFlow => 0x66#8
  | .instructionAccess => 0x01#8
  | .illegalInstruction => 0x02#8
  | .privilegedInstruction => 0x03#8
  | .fpDisabled => 0x04#8
  | .cpDisabled => 0x24#8
  | .windowOverflow => 0x05#8
  | .windowUnderflow => 0x06#8
  | .notAligned => 0x07#8
  | .fpException => 0x08#8
  | .cpException => 0x28#8
  | .dataAccess => 0x09#8
  | .tagOverflow => 0x0A#8
  | .trapInstruction n => 1#1 ++ n
  | .interrupt level => 0x1#4 ++ level

/-- The priority, 1 the highest (R540); the hardware errors, all of priority 2 there, in the order of R586 by the
second number. -/
def Trap.priority : Trap → Nat × Nat
  | .imprecise => (2, 1)
  | .nonRestartable => (2, 2)
  | .registerFile => (2, 3)
  | .restartableLate => (2, 4)
  | .restartablePrecise => (2, 5)
  | .programFlow => (2, 6)
  | .instructionAccess => (3, 0)
  | .illegalInstruction => (4, 0)
  | .privilegedInstruction => (5, 0)
  | .fpDisabled => (6, 0)
  | .cpDisabled => (6, 0)
  | .windowOverflow => (7, 0)
  | .windowUnderflow => (7, 0)
  | .notAligned => (8, 0)
  | .fpException => (9, 0)
  | .cpException => (9, 0)
  | .dataAccess => (10, 0)
  | .tagOverflow => (11, 0)
  | .trapInstruction _ => (12, 0)
  | .interrupt level => (28 - level.toNat, 0)

/-- The unit's disabled trap (R554, R555). -/
def disabledTrap : UnitId → Trap
  | .fpu => .fpDisabled
  | .cp => .cpDisabled

/-- The unit's exception trap (R556, R557). -/
def exceptionTrap : UnitId → Trap
  | .fpu => .fpException
  | .cp => .cpException

/-- The program counters a trap saves (R521): those past an annulled instruction. -/
def State.savedPcs (s : State) : Word × Word := if s.annul then (s.npc, s.npc + 4#32) else (s.pc, s.npc)

/-- Taking a trap of type `tt` (R520): saved counters to r[17] and r[18] of the next window, S to PS, S set, ET cleared,
CWP decremented, tt written, control to the trap table. Nothing else changes; what was fetched ahead is fetched again
(20_memory.md R142), and the next program-flow check is off (R595). -/
def State.enterTrap (s₀ : State) (tt : BitVec 8) : State :=
  let s := s₀.settleLate
  let cwp := s.psr.cwp - 1#3
  let saved := s.savedPcs
  let tbr : Tbr := { s.tbr with tt := tt }
  { (s.setRegIn cwp 17#5 saved.1).setRegIn cwp 18#5 saved.2 with
    psr := { s.psr with et := false, ps := s.psr.s, s := true, cwp := cwp }
    tbr := tbr
    pc := tbr.word
    npc := tbr.word + 4#32
    annul := false
    prev := .other
    pfcSkip := s.pfcSkip || s.pins.flowEnabled
    recent := [] }

/-- FXACK or CXACK when the trap is that unit's exception (R520, R556). -/
def State.acknowledge (s : State) (t : Trap) : State :=
  { s with
    fpu := if t = .fpException then s.fpu.acknowledge else s.fpu
    cp := if t = .cpException then s.cp.acknowledge else s.cp }

/-- The mode after a synchronous trap: error mode when traps were disabled (R530). -/
def State.modeAfterTrap (s : State) : Mode := if s.psr.et then s.mode else .error

/-- Raising a trap (00_scope.md R15): with ET = 1 it is taken (R520); with ET = 0 the same assignments are made and the
machine enters error mode (R530). -/
def State.raise (s : State) (t : Trap) : State :=
  { (s.acknowledge t).enterTrap t.tt with mode := s.modeAfterTrap }

/-- The first condition that holds. The lists of conditions are written in the order of priority (R542). -/
def firstTrap : List (Bool × Trap) → Option Trap
  | [] => none
  | (c, t) :: rest => if c then some t else firstTrap rest

/-- An instruction with its trap conditions and the state it leaves when none holds (R15, R542). -/
def State.attempt (s : State) (conds : List (Bool × Trap)) (done : State) : State :=
  match firstTrap conds with
  | some t => s.raise t
  | none => done

/-! ## The program counters -/

/-- The end of an instruction that transfers no control (00_scope.md R22). -/
def State.advance (s : State) : State := { s with pc := s.npc, npc := s.npc + 4#32, prev := .other }

/-- The transfer of a delayed control transfer to `target` (43_control_transfer.md R362), or, when the instruction is
the second of a couple whose first is a conditional branch, to a free word address (R365; log 19). -/
def State.transfer (s : State) (target : Word) : State :=
  { s with
    pc := s.npc
    npc := if s.prev = .condBranch then Config.coupleTarget s.free ++ 0#2 else target
    prev := .other
    free := if s.prev = .condBranch then s.free + 1 else s.free }

end Sys2Proof.Machine
end

