-- ==== Sys2Proof/Machine/Operands.lean ====
section
/-! DEFINITION. Every operand form of the spec: the second operand, the effective address, shift counts, immediates and
displacements (30_encoding.md R160 to R162), the value of a write-control-register instruction (44_control_registers.md
R426), and the operands of alternate-space instructions (40_load_store.md R224, R240). -/

namespace Sys2Proof.Machine

/-- `operand2` (R160): r[rs2], or the sign-extended constant. -/
def State.operand2 (s : State) : Operand2 → Word
  | .reg rs2 => s.reg rs2
  | .imm simm13 => simm13.signExtend 32

/-- The effective address r[rs1] + operand2, also the target of JMPL and RETT (R160). -/
def State.ea (s : State) (rs1 : RegNum) (src : Operand2) : Word := s.reg rs1 + s.operand2 src

/-- The shift count (R162): five bits. PRESUMED (log 5), unsafe. -/
def State.shiftCount (s : State) : ShiftSource → Nat
  | .reg rs2 => ((s.reg rs2).extractLsb' 0 5).toNat
  | .imm shcnt => shcnt.toNat

/-- The value of SETHI (R161, 42_arithmetic_logical_shift.md R345). -/
def sethiValue (imm22 : BitVec 22) : Word := imm22 ++ 0#10

/-- The displacement of a branch in bytes (R161). -/
def branchOffset (disp22 : BitVec 22) : Word := (disp22 ++ 0#2).signExtend 32

/-- The displacement of CALL in bytes (R161). -/
def callOffset (disp30 : BitVec 30) : Word := disp30 ++ 0#2

/-- The value a WRY, WRPSR, WRWIM or WRTBR writes (44_control_registers.md R426). PRESUMED exclusive or (log 10),
unsafe. -/
def State.writeValue (s : State) (rs1 : RegNum) (src : Operand2) : Word := s.reg rs1 ^^^ s.operand2 src

/-- The trap number of Ticc (43_control_transfer.md R396). -/
def State.trapNumber (s : State) (rs1 : RegNum) (src : Operand2) : BitVec 7 := (s.ea rs1 src).extractLsb' 0 7

/-- An alternate-space instruction: `body` with its ASI and address; with i = 1, illegal_instruction whatever the mode
(40_load_store.md R224, R240). -/
def State.alternate (s : State) (rs1 : RegNum) (src : AltSource) (body : Asi → Word → State) : State :=
  match src with
  | .imm _ => s.raise .illegalInstruction
  | .reg asi rs2 => body asi (s.reg rs1 + s.reg rs2)

end Sys2Proof.Machine
end

