-- ==== Sys2Proof/Machine/Arith.lean ====
section
/-! DEFINITION. Arithmetic, logical and shift instructions, MULScc and SETHI (spec 42_arithmetic_logical_shift.md), with
the program flow check that SETHI to r[0] makes (60_exceptions.md R590 to R596): the shared operations, then one meaning
per instruction. -/

namespace Sys2Proof.Machine

/-! ## Shared operations -/

/-- r[rd] <- v and the end of the instruction (R300, R303). -/
def State.result (s : State) (rd : RegNum) (v : Word) : State := (s.setReg rd v).advance

/-- icc <- f (10_state.md R63). -/
def State.setIcc (s : State) (f : Icc) : State := s.updatePsr fun p => { p with icc := f }

/-- r[rd] <- v, icc <- f (R302). -/
def State.resultCc (s : State) (rd : RegNum) (v : Word) (f : Icc) : State := ((s.setReg rd v).setIcc f).advance

/-- A tagged operation that traps when its V flag would be set (R316, R318). -/
def State.taggedTrap (s : State) (rd : RegNum) (v : Word) (f : Icc) : State :=
  s.attempt [(f.v, .tagOverflow)] (s.resultCc rd v f)

/-- The first operand of a multiply step: `a` shifted right, N xor V entering (R340). -/
def State.mulStepLeft (s : State) (a : Word) : Word :=
  BitVec.ofBool (s.psr.icc.n ^^ s.psr.icc.v) ++ a.extractLsb' 1 31

/-- The second operand of a multiply step (R340). -/
def State.mulStepRight (s : State) (b : Word) : Word := if s.y.getLsbD 0 then b else 0#32

/-- The signature of the program flow checksum (60_exceptions.md R591). -/
def State.signature (s : State) : BitVec 16 := s.pfcSum.extractLsb' 16 16 ^^^ s.pfcSum.extractLsb' 0 16

/-- imm22 of a check instruction (R592). -/
def isCheck (imm22 : BitVec 22) : Bool := imm22.extractLsb' 16 6 == 0b011111#6

/-- SETHI to r[0] with program flow control enabled: the NOP (R593), the check (R592), and a word that is neither, whose
effect is free (92_eei_decisions.md D14 b; log 24). -/
def State.flowCheck (s : State) (imm22 : BitVec 22) : State :=
  if imm22 = 0#22 then { s with pfcSum := 0#32, pfcSkip := true }.advance
  else if isCheck imm22 then
    if !s.pfcSkip && s.signature != imm22.extractLsb' 0 16 then { s with pfcSum := 0#32 }.raise .programFlow
    else { s with pfcSum := 0#32, pfcSkip := false }.advance
  else
    let t : State :=
      { s with pfcSum := Config.oddSethiSum s.free, pfcSkip := Config.oddSethiSkip s.free, free := s.free + 1 }
    if Config.oddSethiTraps s.free then t.raise .programFlow else t.advance

/-! ## The instructions -/

/-- ADD (R305). -/
def execAdd (rd rs1 : RegNum) (src : Operand2) (s : State) : Host.Outcome State Fault Refusal :=
  .next (s.result rd (s.reg rs1 + s.operand2 src))

/-- ADDcc (R306). -/
def execAddcc (rd rs1 : RegNum) (src : Operand2) (s : State) : Host.Outcome State Fault Refusal :=
  .next (s.resultCc rd (s.reg rs1 + s.operand2 src)
    (addIcc (s.reg rs1) (s.operand2 src) (s.reg rs1 + s.operand2 src)))

/-- ADDX (R307). -/
def execAddx (rd rs1 : RegNum) (src : Operand2) (s : State) : Host.Outcome State Fault Refusal :=
  .next (s.result rd (s.reg rs1 + s.operand2 src + carryWord s.psr.icc.c))

/-- ADDXcc (R308). -/
def execAddxcc (rd rs1 : RegNum) (src : Operand2) (s : State) : Host.Outcome State Fault Refusal :=
  .next (s.resultCc rd (s.reg rs1 + s.operand2 src + carryWord s.psr.icc.c)
    (addIcc (s.reg rs1) (s.operand2 src) (s.reg rs1 + s.operand2 src + carryWord s.psr.icc.c)))

/-- SUB (R310). -/
def execSub (rd rs1 : RegNum) (src : Operand2) (s : State) : Host.Outcome State Fault Refusal :=
  .next (s.result rd (s.reg rs1 - s.operand2 src))

/-- SUBcc (R311). -/
def execSubcc (rd rs1 : RegNum) (src : Operand2) (s : State) : Host.Outcome State Fault Refusal :=
  .next (s.resultCc rd (s.reg rs1 - s.operand2 src)
    (subIcc (s.reg rs1) (s.operand2 src) (s.reg rs1 - s.operand2 src)))

/-- SUBX (R312). -/
def execSubx (rd rs1 : RegNum) (src : Operand2) (s : State) : Host.Outcome State Fault Refusal :=
  .next (s.result rd (s.reg rs1 - s.operand2 src - carryWord s.psr.icc.c))

/-- SUBXcc (R313). -/
def execSubxcc (rd rs1 : RegNum) (src : Operand2) (s : State) : Host.Outcome State Fault Refusal :=
  .next (s.resultCc rd (s.reg rs1 - s.operand2 src - carryWord s.psr.icc.c)
    (subIcc (s.reg rs1) (s.operand2 src) (s.reg rs1 - s.operand2 src - carryWord s.psr.icc.c)))

/-- TADDcc (R315). -/
def execTaddcc (rd rs1 : RegNum) (src : Operand2) (s : State) : Host.Outcome State Fault Refusal :=
  .next (s.resultCc rd (s.reg rs1 + s.operand2 src) (taggedAddIcc (s.reg rs1) (s.operand2 src)))

/-- TADDccTV (R316). -/
def execTaddcctv (rd rs1 : RegNum) (src : Operand2) (s : State) : Host.Outcome State Fault Refusal :=
  .next (s.taggedTrap rd (s.reg rs1 + s.operand2 src) (taggedAddIcc (s.reg rs1) (s.operand2 src)))

/-- TSUBcc (R317). -/
def execTsubcc (rd rs1 : RegNum) (src : Operand2) (s : State) : Host.Outcome State Fault Refusal :=
  .next (s.resultCc rd (s.reg rs1 - s.operand2 src) (taggedSubIcc (s.reg rs1) (s.operand2 src)))

/-- TSUBccTV (R318). -/
def execTsubcctv (rd rs1 : RegNum) (src : Operand2) (s : State) : Host.Outcome State Fault Refusal :=
  .next (s.taggedTrap rd (s.reg rs1 - s.operand2 src) (taggedSubIcc (s.reg rs1) (s.operand2 src)))

/-- AND (R320). -/
def execAnd (rd rs1 : RegNum) (src : Operand2) (s : State) : Host.Outcome State Fault Refusal :=
  .next (s.result rd (s.reg rs1 &&& s.operand2 src))

/-- ANDcc (R321). -/
def execAndcc (rd rs1 : RegNum) (src : Operand2) (s : State) : Host.Outcome State Fault Refusal :=
  .next (s.resultCc rd (s.reg rs1 &&& s.operand2 src) (logicIcc (s.reg rs1 &&& s.operand2 src)))

/-- ANDN (R322). -/
def execAndn (rd rs1 : RegNum) (src : Operand2) (s : State) : Host.Outcome State Fault Refusal :=
  .next (s.result rd (s.reg rs1 &&& ~~~s.operand2 src))

/-- ANDNcc (R323). -/
def execAndncc (rd rs1 : RegNum) (src : Operand2) (s : State) : Host.Outcome State Fault Refusal :=
  .next (s.resultCc rd (s.reg rs1 &&& ~~~s.operand2 src) (logicIcc (s.reg rs1 &&& ~~~s.operand2 src)))

/-- OR (R324). -/
def execOr (rd rs1 : RegNum) (src : Operand2) (s : State) : Host.Outcome State Fault Refusal :=
  .next (s.result rd (s.reg rs1 ||| s.operand2 src))

/-- ORcc (R325). -/
def execOrcc (rd rs1 : RegNum) (src : Operand2) (s : State) : Host.Outcome State Fault Refusal :=
  .next (s.resultCc rd (s.reg rs1 ||| s.operand2 src) (logicIcc (s.reg rs1 ||| s.operand2 src)))

/-- ORN (R326). -/
def execOrn (rd rs1 : RegNum) (src : Operand2) (s : State) : Host.Outcome State Fault Refusal :=
  .next (s.result rd (s.reg rs1 ||| ~~~s.operand2 src))

/-- ORNcc (R327). -/
def execOrncc (rd rs1 : RegNum) (src : Operand2) (s : State) : Host.Outcome State Fault Refusal :=
  .next (s.resultCc rd (s.reg rs1 ||| ~~~s.operand2 src) (logicIcc (s.reg rs1 ||| ~~~s.operand2 src)))

/-- XOR (R328). -/
def execXor (rd rs1 : RegNum) (src : Operand2) (s : State) : Host.Outcome State Fault Refusal :=
  .next (s.result rd (s.reg rs1 ^^^ s.operand2 src))

/-- XORcc (R329). -/
def execXorcc (rd rs1 : RegNum) (src : Operand2) (s : State) : Host.Outcome State Fault Refusal :=
  .next (s.resultCc rd (s.reg rs1 ^^^ s.operand2 src) (logicIcc (s.reg rs1 ^^^ s.operand2 src)))

/-- XNOR (R330). -/
def execXnor (rd rs1 : RegNum) (src : Operand2) (s : State) : Host.Outcome State Fault Refusal :=
  .next (s.result rd (~~~(s.reg rs1 ^^^ s.operand2 src)))

/-- XNORcc (R331). -/
def execXnorcc (rd rs1 : RegNum) (src : Operand2) (s : State) : Host.Outcome State Fault Refusal :=
  .next (s.resultCc rd (~~~(s.reg rs1 ^^^ s.operand2 src)) (logicIcc (~~~(s.reg rs1 ^^^ s.operand2 src))))

/-- SLL (R335). -/
def execSll (rd rs1 : RegNum) (cnt : ShiftSource) (s : State) : Host.Outcome State Fault Refusal :=
  .next (s.result rd (s.reg rs1 <<< s.shiftCount cnt))

/-- SRL (R336). -/
def execSrl (rd rs1 : RegNum) (cnt : ShiftSource) (s : State) : Host.Outcome State Fault Refusal :=
  .next (s.result rd (s.reg rs1 >>> s.shiftCount cnt))

/-- SRA (R337). -/
def execSra (rd rs1 : RegNum) (cnt : ShiftSource) (s : State) : Host.Outcome State Fault Refusal :=
  .next (s.result rd ((s.reg rs1).sshiftRight (s.shiftCount cnt)))

/-- MULScc (R340). The step is PRESUMED (log 9), unsafe. -/
def execMulscc (rd rs1 : RegNum) (src : Operand2) (s : State) : Host.Outcome State Fault Refusal :=
  let op1 := s.mulStepLeft (s.reg rs1)
  let op2 := s.mulStepRight (s.operand2 src)
  .next ((s.updateY (BitVec.ofBool ((s.reg rs1).getLsbD 0) ++ s.y.extractLsb' 1 31)).resultCc rd (op1 + op2)
    (addIcc op1 op2 (op1 + op2)))

/-- SETHI (R345, R346). -/
def execSethi (rd : RegNum) (imm22 : BitVec 22) (s : State) : Host.Outcome State Fault Refusal :=
  .next (if s.pins.flowEnabled && rd == 0#5 then s.flowCheck imm22 else s.result rd (sethiValue imm22))

end Sys2Proof.Machine
end

