-- ==== Sys2Proof/Machine/Control.lean ====
section
/-! DEFINITION. Control transfer: branches, CALL, JMPL, RETT, SAVE, RESTORE, Ticc (spec 43_control_transfer.md): the
shared operations, then one meaning per instruction. -/

namespace Sys2Proof.Machine

/-! ## Shared operations -/

/-- What is added to the address of a branch or CALL before its displacement (R361; log 4). -/
def State.ctiBase (s : State) : Word := if s.params.ctiBaseFour then 4#32 else 0#32

/-- The target of a branch (R361). -/
def State.branchTarget (s : State) (disp22 : BitVec 22) : Word := s.pc + s.ctiBase + branchOffset disp22

/-- The end of a branch (R362, R363): the transfer if taken; the delay instruction annulled if a = 1 and the branch is B*A
(`always`) or not taken; every branch but B*A is remembered as conditional (R365). -/
def State.branch (s : State) (always taken a : Bool) (disp22 : BitVec 22) : State :=
  { s.transfer (if taken then s.branchTarget disp22 else s.npc + 4#32) with
    annul := a && (always || !taken)
    prev := if always then .other else .condBranch }

/-- Bicc (R370). -/
def State.branchIcc (s : State) (cond : BitVec 4) (a : Bool) (disp22 : BitVec 22) : State :=
  s.branch (cond == 0b1000#4) (iccTest cond s.psr.icc) a disp22

/-- The instruction executed just before may set the unit's codes and no other stands between, which the software rule of R378 and
70_reset_and_hazards.md R643 lets no program do. -/
def State.branchTooEarly (s : State) : UnitId → Bool
  | .fpu => s.prev == .fpCompare
  | .cp => s.prev == .cpOperate

/-- The branch of a unit once its traps are past: on the unit's codes, those of the latest compare (45_fpop_cpop.md R449, R643);
where the parameter `earlyBranchOpen` takes R378 at its word, a branch right after that compare is on free codes. Which of the two
is the parameter's value is DESIGN CHOICE (log 33). -/
def State.branchCc (s : State) (u : UnitId) (cond : BitVec 4) (a : Bool) (disp22 : BitVec 22) : State :=
  if s.params.earlyBranchOpen && s.branchTooEarly u then
    { s with free := s.free + 1 }.branch (cond == 0b1000#4) (ccTest cond (Config.earlyCc s.free)) a disp22
  else s.branch (cond == 0b1000#4) (ccTest cond (s.unit u).cc) a disp22

/-- The traps of FBfcc, CBccc, FPop and CPop in their order (R374, R376, 45_fpop_cpop.md R441, R491). -/
def State.operateTraps (s : State) (u : UnitId) : List (Bool × Trap) :=
  [(s.unitDisabled u, disabledTrap u), ((s.unit u).excPending, exceptionTrap u)]

/-- FBfcc (R374), CBccc (R376). -/
def State.branchUnit (s : State) (u : UnitId) (cond : BitVec 4) (a : Bool) (disp22 : BitVec 22) : State :=
  s.attempt (s.operateTraps u) (s.branchCc u cond a disp22)

/-- Ticc (R396): no delay instruction. -/
def State.trapIcc (s : State) (cond : BitVec 4) (rs1 : RegNum) (src : Operand2) : State :=
  s.attempt [(iccTest cond s.psr.icc, .trapInstruction (s.trapNumber rs1 src))] s.advance

/-- SAVE and RESTORE to window `cwp` (R392, R393): the sum of operands of the old window into r[rd] of the new one. -/
def State.moveWindow (s : State) (cwp : Window) (invalid : Trap) (rd : RegNum) (v : Word) : State :=
  s.attempt [(s.invalidWindow cwp, invalid)] ((s.updatePsr fun p => { p with cwp := cwp }).setReg rd v).advance

/-- The traps of RETT in their order (R388; the order with ET = 0 is 92_eei_decisions.md D10, log 20). -/
def State.rettTraps (s : State) (target : Word) : List (Bool × Trap) :=
  [(s.psr.et, .illegalInstruction), (!s.psr.s, .privilegedInstruction),
   (s.invalidWindow (s.psr.cwp + 1#3), .windowUnderflow), (misaligned .word target, .notAligned)]

/-- The return from a trap (R388): traps enabled, S from PS, the window of the trapped code, a delayed transfer; the next
program flow check is off (60_exceptions.md R595), and what was fetched ahead is fetched again (20_memory.md R142). -/
def State.returnFromTrap (s : State) (target : Word) : State :=
  { (s.updatePsr fun p => { p with et := true, s := s.psr.ps, cwp := s.psr.cwp + 1#3 }).transfer target with
    pfcSkip := s.pfcSkip || s.pins.flowEnabled
    recent := [] }

/-! ## The instructions -/

/-- BN (R370, R371). -/
def execBn (a : Bool) (disp22 : BitVec 22) (s : State) : Host.Outcome State Fault Refusal :=
  .next (s.branchIcc 0b0000#4 a disp22)

/-- BE (R370, R371). -/
def execBe (a : Bool) (disp22 : BitVec 22) (s : State) : Host.Outcome State Fault Refusal :=
  .next (s.branchIcc 0b0001#4 a disp22)

/-- BLE (R370, R371). -/
def execBle (a : Bool) (disp22 : BitVec 22) (s : State) : Host.Outcome State Fault Refusal :=
  .next (s.branchIcc 0b0010#4 a disp22)

/-- BL (R370, R371). -/
def execBl (a : Bool) (disp22 : BitVec 22) (s : State) : Host.Outcome State Fault Refusal :=
  .next (s.branchIcc 0b0011#4 a disp22)

/-- BLEU (R370, R371). -/
def execBleu (a : Bool) (disp22 : BitVec 22) (s : State) : Host.Outcome State Fault Refusal :=
  .next (s.branchIcc 0b0100#4 a disp22)

/-- BCS (R370, R371). -/
def execBcs (a : Bool) (disp22 : BitVec 22) (s : State) : Host.Outcome State Fault Refusal :=
  .next (s.branchIcc 0b0101#4 a disp22)

/-- BNEG (R370, R371). -/
def execBneg (a : Bool) (disp22 : BitVec 22) (s : State) : Host.Outcome State Fault Refusal :=
  .next (s.branchIcc 0b0110#4 a disp22)

/-- BVS (R370, R371). -/
def execBvs (a : Bool) (disp22 : BitVec 22) (s : State) : Host.Outcome State Fault Refusal :=
  .next (s.branchIcc 0b0111#4 a disp22)

/-- BA (R370, R371). -/
def execBa (a : Bool) (disp22 : BitVec 22) (s : State) : Host.Outcome State Fault Refusal :=
  .next (s.branchIcc 0b1000#4 a disp22)

/-- BNE (R370, R371). -/
def execBne (a : Bool) (disp22 : BitVec 22) (s : State) : Host.Outcome State Fault Refusal :=
  .next (s.branchIcc 0b1001#4 a disp22)

/-- BG (R370, R371). -/
def execBg (a : Bool) (disp22 : BitVec 22) (s : State) : Host.Outcome State Fault Refusal :=
  .next (s.branchIcc 0b1010#4 a disp22)

/-- BGE (R370, R371). -/
def execBge (a : Bool) (disp22 : BitVec 22) (s : State) : Host.Outcome State Fault Refusal :=
  .next (s.branchIcc 0b1011#4 a disp22)

/-- BGU (R370, R371). -/
def execBgu (a : Bool) (disp22 : BitVec 22) (s : State) : Host.Outcome State Fault Refusal :=
  .next (s.branchIcc 0b1100#4 a disp22)

/-- BCC (R370, R371). -/
def execBcc (a : Bool) (disp22 : BitVec 22) (s : State) : Host.Outcome State Fault Refusal :=
  .next (s.branchIcc 0b1101#4 a disp22)

/-- BPOS (R370, R371). -/
def execBpos (a : Bool) (disp22 : BitVec 22) (s : State) : Host.Outcome State Fault Refusal :=
  .next (s.branchIcc 0b1110#4 a disp22)

/-- BVC (R370, R371). -/
def execBvc (a : Bool) (disp22 : BitVec 22) (s : State) : Host.Outcome State Fault Refusal :=
  .next (s.branchIcc 0b1111#4 a disp22)

/-- FBN (R374, R375). -/
def execFbn (a : Bool) (disp22 : BitVec 22) (s : State) : Host.Outcome State Fault Refusal :=
  .next (s.branchUnit .fpu 0b0000#4 a disp22)

/-- FBNE (R374, R375). -/
def execFbne (a : Bool) (disp22 : BitVec 22) (s : State) : Host.Outcome State Fault Refusal :=
  .next (s.branchUnit .fpu 0b0001#4 a disp22)

/-- FBLG (R374, R375). -/
def execFblg (a : Bool) (disp22 : BitVec 22) (s : State) : Host.Outcome State Fault Refusal :=
  .next (s.branchUnit .fpu 0b0010#4 a disp22)

/-- FBUL (R374, R375). -/
def execFbul (a : Bool) (disp22 : BitVec 22) (s : State) : Host.Outcome State Fault Refusal :=
  .next (s.branchUnit .fpu 0b0011#4 a disp22)

/-- FBL (R374, R375). -/
def execFbl (a : Bool) (disp22 : BitVec 22) (s : State) : Host.Outcome State Fault Refusal :=
  .next (s.branchUnit .fpu 0b0100#4 a disp22)

/-- FBUG (R374, R375). -/
def execFbug (a : Bool) (disp22 : BitVec 22) (s : State) : Host.Outcome State Fault Refusal :=
  .next (s.branchUnit .fpu 0b0101#4 a disp22)

/-- FBG (R374, R375). -/
def execFbg (a : Bool) (disp22 : BitVec 22) (s : State) : Host.Outcome State Fault Refusal :=
  .next (s.branchUnit .fpu 0b0110#4 a disp22)

/-- FBU (R374, R375). -/
def execFbu (a : Bool) (disp22 : BitVec 22) (s : State) : Host.Outcome State Fault Refusal :=
  .next (s.branchUnit .fpu 0b0111#4 a disp22)

/-- FBA (R374, R375). -/
def execFba (a : Bool) (disp22 : BitVec 22) (s : State) : Host.Outcome State Fault Refusal :=
  .next (s.branchUnit .fpu 0b1000#4 a disp22)

/-- FBE (R374, R375). -/
def execFbe (a : Bool) (disp22 : BitVec 22) (s : State) : Host.Outcome State Fault Refusal :=
  .next (s.branchUnit .fpu 0b1001#4 a disp22)

/-- FBUE (R374, R375). -/
def execFbue (a : Bool) (disp22 : BitVec 22) (s : State) : Host.Outcome State Fault Refusal :=
  .next (s.branchUnit .fpu 0b1010#4 a disp22)

/-- FBGE (R374, R375). -/
def execFbge (a : Bool) (disp22 : BitVec 22) (s : State) : Host.Outcome State Fault Refusal :=
  .next (s.branchUnit .fpu 0b1011#4 a disp22)

/-- FBUGE (R374, R375). -/
def execFbuge (a : Bool) (disp22 : BitVec 22) (s : State) : Host.Outcome State Fault Refusal :=
  .next (s.branchUnit .fpu 0b1100#4 a disp22)

/-- FBLE (R374, R375). -/
def execFble (a : Bool) (disp22 : BitVec 22) (s : State) : Host.Outcome State Fault Refusal :=
  .next (s.branchUnit .fpu 0b1101#4 a disp22)

/-- FBULE (R374, R375). -/
def execFbule (a : Bool) (disp22 : BitVec 22) (s : State) : Host.Outcome State Fault Refusal :=
  .next (s.branchUnit .fpu 0b1110#4 a disp22)

/-- FBO (R374, R375). -/
def execFbo (a : Bool) (disp22 : BitVec 22) (s : State) : Host.Outcome State Fault Refusal :=
  .next (s.branchUnit .fpu 0b1111#4 a disp22)

/-- CBN (R376, R377). -/
def execCbn (a : Bool) (disp22 : BitVec 22) (s : State) : Host.Outcome State Fault Refusal :=
  .next (s.branchUnit .cp 0b0000#4 a disp22)

/-- CB123 (R376, R377). -/
def execCb123 (a : Bool) (disp22 : BitVec 22) (s : State) : Host.Outcome State Fault Refusal :=
  .next (s.branchUnit .cp 0b0001#4 a disp22)

/-- CB12 (R376, R377). -/
def execCb12 (a : Bool) (disp22 : BitVec 22) (s : State) : Host.Outcome State Fault Refusal :=
  .next (s.branchUnit .cp 0b0010#4 a disp22)

/-- CB13 (R376, R377). -/
def execCb13 (a : Bool) (disp22 : BitVec 22) (s : State) : Host.Outcome State Fault Refusal :=
  .next (s.branchUnit .cp 0b0011#4 a disp22)

/-- CB1 (R376, R377). -/
def execCb1 (a : Bool) (disp22 : BitVec 22) (s : State) : Host.Outcome State Fault Refusal :=
  .next (s.branchUnit .cp 0b0100#4 a disp22)

/-- CB23 (R376, R377). -/
def execCb23 (a : Bool) (disp22 : BitVec 22) (s : State) : Host.Outcome State Fault Refusal :=
  .next (s.branchUnit .cp 0b0101#4 a disp22)

/-- CB2 (R376, R377). -/
def execCb2 (a : Bool) (disp22 : BitVec 22) (s : State) : Host.Outcome State Fault Refusal :=
  .next (s.branchUnit .cp 0b0110#4 a disp22)

/-- CB3 (R376, R377). -/
def execCb3 (a : Bool) (disp22 : BitVec 22) (s : State) : Host.Outcome State Fault Refusal :=
  .next (s.branchUnit .cp 0b0111#4 a disp22)

/-- CBA (R376, R377). -/
def execCba (a : Bool) (disp22 : BitVec 22) (s : State) : Host.Outcome State Fault Refusal :=
  .next (s.branchUnit .cp 0b1000#4 a disp22)

/-- CB0 (R376, R377). -/
def execCb0 (a : Bool) (disp22 : BitVec 22) (s : State) : Host.Outcome State Fault Refusal :=
  .next (s.branchUnit .cp 0b1001#4 a disp22)

/-- CB03 (R376, R377). -/
def execCb03 (a : Bool) (disp22 : BitVec 22) (s : State) : Host.Outcome State Fault Refusal :=
  .next (s.branchUnit .cp 0b1010#4 a disp22)

/-- CB02 (R376, R377). -/
def execCb02 (a : Bool) (disp22 : BitVec 22) (s : State) : Host.Outcome State Fault Refusal :=
  .next (s.branchUnit .cp 0b1011#4 a disp22)

/-- CB023 (R376, R377). -/
def execCb023 (a : Bool) (disp22 : BitVec 22) (s : State) : Host.Outcome State Fault Refusal :=
  .next (s.branchUnit .cp 0b1100#4 a disp22)

/-- CB01 (R376, R377). -/
def execCb01 (a : Bool) (disp22 : BitVec 22) (s : State) : Host.Outcome State Fault Refusal :=
  .next (s.branchUnit .cp 0b1101#4 a disp22)

/-- CB013 (R376, R377). -/
def execCb013 (a : Bool) (disp22 : BitVec 22) (s : State) : Host.Outcome State Fault Refusal :=
  .next (s.branchUnit .cp 0b1110#4 a disp22)

/-- CB012 (R376, R377). -/
def execCb012 (a : Bool) (disp22 : BitVec 22) (s : State) : Host.Outcome State Fault Refusal :=
  .next (s.branchUnit .cp 0b1111#4 a disp22)

/-- CALL (R380). -/
def execCall (disp30 : BitVec 30) (s : State) : Host.Outcome State Fault Refusal :=
  .next ((s.setReg 15#5 s.pc).transfer (s.pc + s.ctiBase + callOffset disp30))

/-- JMPL (R384). -/
def execJmpl (rd rs1 : RegNum) (src : Operand2) (s : State) : Host.Outcome State Fault Refusal :=
  .next (s.attempt [(misaligned .word (s.ea rs1 src), .notAligned)]
    ((s.setReg rd s.pc).transfer (s.ea rs1 src)))

/-- RETT (R388). -/
def execRett (rs1 : RegNum) (src : Operand2) (s : State) : Host.Outcome State Fault Refusal :=
  .next (s.attempt (s.rettTraps (s.ea rs1 src)) (s.returnFromTrap (s.ea rs1 src)))

/-- SAVE (R392). -/
def execSave (rd rs1 : RegNum) (src : Operand2) (s : State) : Host.Outcome State Fault Refusal :=
  .next (s.moveWindow (s.psr.cwp - 1#3) .windowOverflow rd (s.ea rs1 src))

/-- RESTORE (R393). -/
def execRestore (rd rs1 : RegNum) (src : Operand2) (s : State) : Host.Outcome State Fault Refusal :=
  .next (s.moveWindow (s.psr.cwp + 1#3) .windowUnderflow rd (s.ea rs1 src))

/-- TN (R396, R371). -/
def execTn (rs1 : RegNum) (src : Operand2) (s : State) : Host.Outcome State Fault Refusal :=
  .next (s.trapIcc 0b0000#4 rs1 src)

/-- TE (R396, R371). -/
def execTe (rs1 : RegNum) (src : Operand2) (s : State) : Host.Outcome State Fault Refusal :=
  .next (s.trapIcc 0b0001#4 rs1 src)

/-- TLE (R396, R371). -/
def execTle (rs1 : RegNum) (src : Operand2) (s : State) : Host.Outcome State Fault Refusal :=
  .next (s.trapIcc 0b0010#4 rs1 src)

/-- TL (R396, R371). -/
def execTl (rs1 : RegNum) (src : Operand2) (s : State) : Host.Outcome State Fault Refusal :=
  .next (s.trapIcc 0b0011#4 rs1 src)

/-- TLEU (R396, R371). -/
def execTleu (rs1 : RegNum) (src : Operand2) (s : State) : Host.Outcome State Fault Refusal :=
  .next (s.trapIcc 0b0100#4 rs1 src)

/-- TCS (R396, R371). -/
def execTcs (rs1 : RegNum) (src : Operand2) (s : State) : Host.Outcome State Fault Refusal :=
  .next (s.trapIcc 0b0101#4 rs1 src)

/-- TNEG (R396, R371). -/
def execTneg (rs1 : RegNum) (src : Operand2) (s : State) : Host.Outcome State Fault Refusal :=
  .next (s.trapIcc 0b0110#4 rs1 src)

/-- TVS (R396, R371). -/
def execTvs (rs1 : RegNum) (src : Operand2) (s : State) : Host.Outcome State Fault Refusal :=
  .next (s.trapIcc 0b0111#4 rs1 src)

/-- TA (R396, R371). -/
def execTa (rs1 : RegNum) (src : Operand2) (s : State) : Host.Outcome State Fault Refusal :=
  .next (s.trapIcc 0b1000#4 rs1 src)

/-- TNE (R396, R371). -/
def execTne (rs1 : RegNum) (src : Operand2) (s : State) : Host.Outcome State Fault Refusal :=
  .next (s.trapIcc 0b1001#4 rs1 src)

/-- TG (R396, R371). -/
def execTg (rs1 : RegNum) (src : Operand2) (s : State) : Host.Outcome State Fault Refusal :=
  .next (s.trapIcc 0b1010#4 rs1 src)

/-- TGE (R396, R371). -/
def execTge (rs1 : RegNum) (src : Operand2) (s : State) : Host.Outcome State Fault Refusal :=
  .next (s.trapIcc 0b1011#4 rs1 src)

/-- TGU (R396, R371). -/
def execTgu (rs1 : RegNum) (src : Operand2) (s : State) : Host.Outcome State Fault Refusal :=
  .next (s.trapIcc 0b1100#4 rs1 src)

/-- TCC (R396, R371). -/
def execTcc (rs1 : RegNum) (src : Operand2) (s : State) : Host.Outcome State Fault Refusal :=
  .next (s.trapIcc 0b1101#4 rs1 src)

/-- TPOS (R396, R371). -/
def execTpos (rs1 : RegNum) (src : Operand2) (s : State) : Host.Outcome State Fault Refusal :=
  .next (s.trapIcc 0b1110#4 rs1 src)

/-- TVC (R396, R371). -/
def execTvc (rs1 : RegNum) (src : Operand2) (s : State) : Host.Outcome State Fault Refusal :=
  .next (s.trapIcc 0b1111#4 rs1 src)

end Sys2Proof.Machine
end

