-- ==== Sys2Proof/Machine/ControlRegs.lean ====
section
/-! DEFINITION. Reading and writing the control registers (spec 44_control_registers.md): one meaning per instruction. A
write is seen by the next instruction, or later by as much as the parameter `wrDelay` says (R435; log 22). -/

namespace Sys2Proof.Machine

/-- The trap of a privileged instruction that has no other (R420, 60_exceptions.md R553). -/
def State.privilegeTraps (s : State) : List (Bool × Trap) := [(!s.psr.s, .privilegedInstruction)]

/-- The traps of WRPSR in their order (R431): a CWP that is no window (log 21), then privilege. -/
def State.wrpsrTraps (s : State) (v : Word) : List (Bool × Trap) :=
  [(8#5 ≤ v.extractLsb' 0 5, .illegalInstruction), (!s.psr.s, .privilegedInstruction)]

/-- The end of a write instruction (R420, R435). -/
def State.controlWritten (s : State) (w : ControlWrite) : State := (s.writeControl w).advance

/-- RDY (R421). -/
def execRdy (rd : RegNum) (s : State) : Host.Outcome State Fault Refusal :=
  .next (s.result rd s.y)

/-- RDPSR (R422). -/
def execRdpsr (rd : RegNum) (s : State) : Host.Outcome State Fault Refusal :=
  .next (s.attempt s.privilegeTraps (s.result rd s.psr.word))

/-- RDWIM (R423). -/
def execRdwim (rd : RegNum) (s : State) : Host.Outcome State Fault Refusal :=
  .next (s.attempt s.privilegeTraps (s.result rd s.wimWord))

/-- RDTBR (R424). -/
def execRdtbr (rd : RegNum) (s : State) : Host.Outcome State Fault Refusal :=
  .next (s.attempt s.privilegeTraps (s.result rd s.tbr.word))

/-- WRY (R427). -/
def execWry (rs1 : RegNum) (src : Operand2) (s : State) : Host.Outcome State Fault Refusal :=
  .next (s.controlWritten (.y (s.writeValue rs1 src)))

/-- WRPSR (R431). -/
def execWrpsr (rs1 : RegNum) (src : Operand2) (s : State) : Host.Outcome State Fault Refusal :=
  .next (s.attempt (s.wrpsrTraps (s.writeValue rs1 src)) (s.controlWritten (.psr (Psr.ofWord (s.writeValue rs1 src)))))

/-- WRWIM (R432). -/
def execWrwim (rs1 : RegNum) (src : Operand2) (s : State) : Host.Outcome State Fault Refusal :=
  .next (s.attempt s.privilegeTraps (s.controlWritten (.wim (s.writeValue rs1 src))))

/-- WRTBR (R433). -/
def execWrtbr (rs1 : RegNum) (src : Operand2) (s : State) : Host.Outcome State Fault Refusal :=
  .next (s.attempt s.privilegeTraps (s.controlWritten (.tbr (s.writeValue rs1 src))))

end Sys2Proof.Machine
end

