-- ==== Sys2Proof/Machine/LoadStore.lean ====
section
/-! DEFINITION. Integer loads and stores (spec 40_load_store.md): the shared operations, then one meaning per
instruction. -/

namespace Sys2Proof.Machine

/-! ## Shared operations -/

/-- The traps of a load or store in their order (R201): privilege (for an alternate form), alignment, refusal. -/
def State.memTraps (s : State) (alternate : Bool) (size : AccessSize) (ea : Word) (refused : Bool) :
    List (Bool × Trap) :=
  [(alternate && !s.psr.s, .privilegedInstruction), (misaligned size ea, .notAligned), (refused, .dataAccess)]

/-- One of the two words of a doubleword access is refused (20_memory.md R115, R124). -/
def State.refusesPair (s : State) (asi : Asi) (ea : Word) (kind : AccessKind) : Bool :=
  s.refuses asi ea .double kind false || s.refuses asi (ea + 4#32) .double kind false

/-- A single load: r[rd] <- value (R205 to R209). -/
def State.loadInto (s : State) (alternate : Bool) (asi : Asi) (ea : Word) (size : AccessSize) (rd : RegNum)
    (value : Word) : State :=
  s.attempt (s.memTraps alternate size ea (s.refuses asi ea size .read false)) (s.setReg rd value).advance

/-- A load of a doubleword into the pair of `rd`, the word at the lower address into the even register (R210). If
either word is refused no register is written (20_memory.md R124). -/
def State.loadPair (s : State) (alternate : Bool) (asi : Asi) (ea : Word) (rd : RegNum) : State :=
  s.attempt (s.memTraps alternate .double ea (s.refusesPair asi ea .read))
    ((s.setReg (pairEven rd) (s.readWord asi ea)).setReg (pairOdd rd) (s.readWord asi (ea + 4#32))).advance

/-- A single store of the bytes `bs` (R215 to R217). -/
def State.storeFrom (s : State) (alternate : Bool) (asi : Asi) (ea : Word) (size : AccessSize) (bs : List Byte) :
    State :=
  s.attempt (s.memTraps alternate size ea (s.refuses asi ea size .write false)) (s.store asi ea bs).advance

/-- The first word of a doubleword store, whose second word is refused, may have been written: a free choice
(20_memory.md R124, 92_eei_decisions.md D4; log 16). -/
def State.tornStore (s : State) (asi : Asi) (ea : Word) (first : Word) : State :=
  if Config.firstWordWritten s.free then { s.store asi ea (bytesOfWord first) with free := s.free + 1 }
  else { s with free := s.free + 1 }

/-- The two writes of a doubleword store, the first not refused; `after` is the state when both are made (R218, R124). -/
def State.storeBoth (s : State) (asi : Asi) (ea : Word) (w0 w1 : Word) (after : State → State) : State :=
  if s.refuses asi (ea + 4#32) .double .write false then (s.tornStore asi ea w0).raise .dataAccess
  else after (s.store asi ea (bytesOfWord w0 ++ bytesOfWord w1))

/-- A store of the pair of `rd` (R218, R236). -/
def State.storePair (s : State) (alternate : Bool) (asi : Asi) (ea : Word) (rd : RegNum) : State :=
  s.attempt (s.memTraps alternate .double ea (s.refuses asi ea .double .write false))
    (s.storeBoth asi ea (s.reg (pairEven rd)) (s.reg (pairOdd rd)) State.advance)

/-- An atomic access is refused at its read or at its write (20_memory.md R124). -/
def State.refusesAtomic (s : State) (asi : Asi) (ea : Word) (size : AccessSize) : Bool :=
  s.refuses asi ea size .read true || s.refuses asi ea size .write true

/-- Atomic exchange: memory receives `bs`, then r[rd] <- old, the value read before (R220, R221). -/
def State.exchange (s : State) (alternate : Bool) (asi : Asi) (ea : Word) (size : AccessSize) (rd : RegNum)
    (old : Word) (bs : List Byte) : State :=
  s.attempt (s.memTraps alternate size ea (s.refusesAtomic asi ea size)) ((s.store asi ea bs).setReg rd old).advance

/-- A byte read, sign-extended (20_memory.md R107). -/
def State.signedByte (s : State) (asi : Asi) (ea : Word) : Word := (s.readByte asi ea).signExtend 32
/-- A byte read, zero-extended. -/
def State.unsignedByte (s : State) (asi : Asi) (ea : Word) : Word := (s.readByte asi ea).zeroExtend 32
/-- A halfword read, sign-extended. -/
def State.signedHalf (s : State) (asi : Asi) (ea : Word) : Word := (s.readHalf asi ea).signExtend 32
/-- A halfword read, zero-extended. -/
def State.unsignedHalf (s : State) (asi : Asi) (ea : Word) : Word := (s.readHalf asi ea).zeroExtend 32

/-- The byte a byte store writes (20_memory.md R108). -/
def lowByte (w : Word) : List Byte := [w.extractLsb' 0 8]
/-- The bytes a halfword store writes (R108, R216). -/
def lowHalf (w : Word) : List Byte := [w.extractLsb' 8 8, w.extractLsb' 0 8]

/-! ## The instructions -/

/-- LDSB (R205). -/
def execLdsb (rd rs1 : RegNum) (src : Operand2) (s : State) : Host.Outcome State Fault Refusal :=
  .next (s.loadInto false s.dataAsi (s.ea rs1 src) .byte rd (s.signedByte s.dataAsi (s.ea rs1 src)))

/-- LDSH (R206). -/
def execLdsh (rd rs1 : RegNum) (src : Operand2) (s : State) : Host.Outcome State Fault Refusal :=
  .next (s.loadInto false s.dataAsi (s.ea rs1 src) .half rd (s.signedHalf s.dataAsi (s.ea rs1 src)))

/-- LDUB (R207). -/
def execLdub (rd rs1 : RegNum) (src : Operand2) (s : State) : Host.Outcome State Fault Refusal :=
  .next (s.loadInto false s.dataAsi (s.ea rs1 src) .byte rd (s.unsignedByte s.dataAsi (s.ea rs1 src)))

/-- LDUH (R208). -/
def execLduh (rd rs1 : RegNum) (src : Operand2) (s : State) : Host.Outcome State Fault Refusal :=
  .next (s.loadInto false s.dataAsi (s.ea rs1 src) .half rd (s.unsignedHalf s.dataAsi (s.ea rs1 src)))

/-- LD (R209). -/
def execLd (rd rs1 : RegNum) (src : Operand2) (s : State) : Host.Outcome State Fault Refusal :=
  .next (s.loadInto false s.dataAsi (s.ea rs1 src) .word rd (s.readWord s.dataAsi (s.ea rs1 src)))

/-- LDD (R210). -/
def execLdd (rd rs1 : RegNum) (src : Operand2) (s : State) : Host.Outcome State Fault Refusal :=
  .next (s.loadPair false s.dataAsi (s.ea rs1 src) rd)

/-- STB (R215). -/
def execStb (rd rs1 : RegNum) (src : Operand2) (s : State) : Host.Outcome State Fault Refusal :=
  .next (s.storeFrom false s.dataAsi (s.ea rs1 src) .byte (lowByte (s.reg rd)))

/-- STH (R216). -/
def execSth (rd rs1 : RegNum) (src : Operand2) (s : State) : Host.Outcome State Fault Refusal :=
  .next (s.storeFrom false s.dataAsi (s.ea rs1 src) .half (lowHalf (s.reg rd)))

/-- ST (R217). -/
def execSt (rd rs1 : RegNum) (src : Operand2) (s : State) : Host.Outcome State Fault Refusal :=
  .next (s.storeFrom false s.dataAsi (s.ea rs1 src) .word (bytesOfWord (s.reg rd)))

/-- STD (R218, R236). -/
def execStd (rd rs1 : RegNum) (src : Operand2) (s : State) : Host.Outcome State Fault Refusal :=
  .next (s.storePair false s.dataAsi (s.ea rs1 src) rd)

/-- LDSTUB (R220). -/
def execLdstub (rd rs1 : RegNum) (src : Operand2) (s : State) : Host.Outcome State Fault Refusal :=
  .next (s.exchange false s.dataAsi (s.ea rs1 src) .byte rd (s.unsignedByte s.dataAsi (s.ea rs1 src)) [0xFF#8])

/-- SWAP (R221). -/
def execSwap (rd rs1 : RegNum) (src : Operand2) (s : State) : Host.Outcome State Fault Refusal :=
  .next (s.exchange false s.dataAsi (s.ea rs1 src) .word rd (s.readWord s.dataAsi (s.ea rs1 src))
    (bytesOfWord (s.reg rd)))

/-- LDSBA (R225). -/
def execLdsba (rd rs1 : RegNum) (src : AltSource) (s : State) : Host.Outcome State Fault Refusal :=
  .next (s.alternate rs1 src fun asi ea => s.loadInto true asi ea .byte rd (s.signedByte asi ea))

/-- LDSHA (R226). -/
def execLdsha (rd rs1 : RegNum) (src : AltSource) (s : State) : Host.Outcome State Fault Refusal :=
  .next (s.alternate rs1 src fun asi ea => s.loadInto true asi ea .half rd (s.signedHalf asi ea))

/-- LDUBA (R227). -/
def execLduba (rd rs1 : RegNum) (src : AltSource) (s : State) : Host.Outcome State Fault Refusal :=
  .next (s.alternate rs1 src fun asi ea => s.loadInto true asi ea .byte rd (s.unsignedByte asi ea))

/-- LDUHA (R228). -/
def execLduha (rd rs1 : RegNum) (src : AltSource) (s : State) : Host.Outcome State Fault Refusal :=
  .next (s.alternate rs1 src fun asi ea => s.loadInto true asi ea .half rd (s.unsignedHalf asi ea))

/-- LDA (R229). -/
def execLda (rd rs1 : RegNum) (src : AltSource) (s : State) : Host.Outcome State Fault Refusal :=
  .next (s.alternate rs1 src fun asi ea => s.loadInto true asi ea .word rd (s.readWord asi ea))

/-- LDDA (R230). -/
def execLdda (rd rs1 : RegNum) (src : AltSource) (s : State) : Host.Outcome State Fault Refusal :=
  .next (s.alternate rs1 src fun asi ea => s.loadPair true asi ea rd)

/-- STBA (R231). -/
def execStba (rd rs1 : RegNum) (src : AltSource) (s : State) : Host.Outcome State Fault Refusal :=
  .next (s.alternate rs1 src fun asi ea => s.storeFrom true asi ea .byte (lowByte (s.reg rd)))

/-- STHA (R232). -/
def execStha (rd rs1 : RegNum) (src : AltSource) (s : State) : Host.Outcome State Fault Refusal :=
  .next (s.alternate rs1 src fun asi ea => s.storeFrom true asi ea .half (lowHalf (s.reg rd)))

/-- STA (R233). -/
def execSta (rd rs1 : RegNum) (src : AltSource) (s : State) : Host.Outcome State Fault Refusal :=
  .next (s.alternate rs1 src fun asi ea => s.storeFrom true asi ea .word (bytesOfWord (s.reg rd)))

/-- STDA (R234). -/
def execStda (rd rs1 : RegNum) (src : AltSource) (s : State) : Host.Outcome State Fault Refusal :=
  .next (s.alternate rs1 src fun asi ea => s.storePair true asi ea rd)

/-- LDSTUBA (R235). -/
def execLdstuba (rd rs1 : RegNum) (src : AltSource) (s : State) : Host.Outcome State Fault Refusal :=
  .next (s.alternate rs1 src fun asi ea => s.exchange true asi ea .byte rd (s.unsignedByte asi ea) [0xFF#8])

/-- SWAPA (R237). -/
def execSwapa (rd rs1 : RegNum) (src : AltSource) (s : State) : Host.Outcome State Fault Refusal :=
  .next (s.alternate rs1 src fun asi ea => s.exchange true asi ea .word rd (s.readWord asi ea) (bytesOfWord (s.reg rd)))

end Sys2Proof.Machine
end

