-- ==== Sys2Proof/Machine/FpCpLoadStore.lean ====
section
/-! DEFINITION. Floating-point and coprocessor loads and stores (spec 41_fp_cp_load_store.md): the interface to the
attached units (R262), then one meaning per instruction. -/

namespace Sys2Proof.Machine

/-! ## Shared operations -/

/-- f[n], c[n] (R262). -/
def CoUnit.reg (x : CoUnit) (n : RegNum) : Word := x.regs[n.toNat]'n.isLt

/-- f[n] <- w, c[n] <- w. -/
def CoUnit.setReg (x : CoUnit) (n : RegNum) (w : Word) : CoUnit := { x with regs := x.regs.set n.toNat w n.isLt }

/-- `loadRegD` (R262): the pair of `rd`, even register first; an odd number is forced even (log 18). -/
def CoUnit.setPair (x : CoUnit) (rd : RegNum) (w0 w1 : Word) : CoUnit :=
  (x.setReg (pairEven rd) w0).setReg (pairOdd rd) w1

/-- The bits of a unit's state register that software can write: its condition code field (R267, R282), and of the
others those that a free constant names (log 29). -/
def statusWritable (u : UnitId) : Word :=
  (match u with | .fpu => Config.fsrWritable | .cp => Config.csrWritable) ||| 3#32 <<< (ccPlace u).val

/-- `loadStatus` (R262, R267): the writable bits, the condition codes among them. -/
def CoUnit.setStatus (x : CoUnit) (u : UnitId) (w : Word) : CoUnit :=
  let status := (w &&& statusWritable u) ||| (x.status &&& ~~~statusWritable u)
  { x with status := status, cc := ccOfStatus u status }

/-- The traps of a unit's load or store in their order (R261). -/
def State.unitTraps (s : State) (u : UnitId) (privileged : Bool) (size : AccessSize) (ea : Word) (refused : Bool) :
    List (Bool × Trap) :=
  [(privileged && !s.psr.s, .privilegedInstruction), (s.unitDisabled u, disabledTrap u), (misaligned size ea, .notAligned),
   ((s.unit u).excPending, exceptionTrap u), (refused, .dataAccess)]

/-- What an instruction other than a queue store does to a unit; a unit in exception mode executes queue stores only,
what becomes of it otherwise is free (45_fpop_cpop.md R447 item 4; log 30). -/
def State.driveUnit (s : State) (u : UnitId) (effect : CoUnit → CoUnit) : State :=
  if (s.unit u).excMode then s.unsettle u else s.setUnit u (effect (s.unit u))

/-- A word that a unit drives in slot `slot` of a store; free in exception mode (log 30). -/
def State.drivenWord (s : State) (u : UnitId) (slot : Nat) (w : CoUnit → Word) : Word :=
  if (s.unit u).excMode then Config.unitWord s.free slot else w (s.unit u)

/-- A load of one word into a unit (R265, R267, R280, R282). -/
def State.loadUnit (s : State) (u : UnitId) (ea : Word) (effect : Word → CoUnit → CoUnit) : State :=
  s.attempt (s.unitTraps u false .word ea (s.refuses s.dataAsi ea .word .read false))
    (s.driveUnit u (effect (s.readWord s.dataAsi ea))).advance

/-- A load of a doubleword into the pair of `rd` of a unit (R266, R281). -/
def State.loadUnitPair (s : State) (u : UnitId) (ea : Word) (rd : RegNum) : State :=
  s.attempt (s.unitTraps u false .double ea (s.refusesPair s.dataAsi ea .read))
    (s.driveUnit u fun x => x.setPair rd (s.readWord s.dataAsi ea) (s.readWord s.dataAsi (ea + 4#32))).advance

/-- A store of one word of a unit (R270, R272, R283, R285). -/
def State.storeUnit (s : State) (u : UnitId) (ea : Word) (w : CoUnit → Word) : State :=
  s.attempt (s.unitTraps u false .word ea (s.refuses s.dataAsi ea .word .write false))
    ((s.store s.dataAsi ea (bytesOfWord (s.drivenWord u 0 w))).driveUnit u id).advance

/-- A store of the pair of `rd` of a unit (R271, R284). -/
def State.storeUnitPair (s : State) (u : UnitId) (ea : Word) (rd : RegNum) : State :=
  s.attempt (s.unitTraps u false .double ea (s.refuses s.dataAsi ea .double .write false))
    (s.storeBoth s.dataAsi ea (s.drivenWord u 0 fun x => x.reg (pairEven rd)) (s.drivenWord u 1 fun x => x.reg (pairOdd rd))
      fun t => (t.driveUnit u id).advance)

/-- The words a queue store delivers: the front entry's address, then its instruction (R273; the order is PRESUMED, log
31, unsafe); free when the queue is empty. That a unit outside exception mode delivers its front entry too is DESIGN
CHOICE (91_not_in_source.md N6 leaves it open; log 31), unsafe. -/
def State.queueWords (s : State) (u : UnitId) : Word × Word :=
  match (s.unit u).queue with
  | [] => (Config.emptyQueueWord s.free 0, Config.emptyQueueWord s.free 1)
  | e :: _ => (e.addr, e.instr)

/-- The front entry leaves the queue; the unit leaves exception mode when its queue is empty (R273, 60_exceptions.md
R556). That the entry leaves outside exception mode too is DESIGN CHOICE (log 31). -/
def State.popQueue (s : State) (u : UnitId) : State :=
  match (s.unit u).queue with
  | [] => { s with free := s.free + 1 }
  | _ :: rest => s.setUnit u { s.unit u with queue := rest, excMode := (s.unit u).excMode && !rest.isEmpty }

/-- A queue store (R273, R286). -/
def State.storeQueue (s : State) (u : UnitId) (ea : Word) : State :=
  s.attempt (s.unitTraps u true .double ea (s.refuses s.dataAsi ea .double .write false))
    (s.storeBoth s.dataAsi ea (s.queueWords u).1 (s.queueWords u).2 fun t => (t.popQueue u).advance)

/-! ## The instructions -/

/-- LDF (R265). -/
def execLdf (rd rs1 : RegNum) (src : Operand2) (s : State) : Host.Outcome State Fault Refusal :=
  .next (s.loadUnit .fpu (s.ea rs1 src) fun w x => x.setReg rd w)

/-- LDDF (R266). -/
def execLddf (rd rs1 : RegNum) (src : Operand2) (s : State) : Host.Outcome State Fault Refusal :=
  .next (s.loadUnitPair .fpu (s.ea rs1 src) rd)

/-- LDFSR (R267). -/
def execLdfsr (rs1 : RegNum) (src : Operand2) (s : State) : Host.Outcome State Fault Refusal :=
  .next (s.loadUnit .fpu (s.ea rs1 src) fun w x => x.setStatus .fpu w)

/-- STF (R270). -/
def execStf (rd rs1 : RegNum) (src : Operand2) (s : State) : Host.Outcome State Fault Refusal :=
  .next (s.storeUnit .fpu (s.ea rs1 src) fun x => x.reg rd)

/-- STDF (R271). -/
def execStdf (rd rs1 : RegNum) (src : Operand2) (s : State) : Host.Outcome State Fault Refusal :=
  .next (s.storeUnitPair .fpu (s.ea rs1 src) rd)

/-- STFSR (R272). -/
def execStfsr (rs1 : RegNum) (src : Operand2) (s : State) : Host.Outcome State Fault Refusal :=
  .next (s.storeUnit .fpu (s.ea rs1 src) fun x => x.statusWord .fpu)

/-- STDFQ (R273). -/
def execStdfq (rs1 : RegNum) (src : Operand2) (s : State) : Host.Outcome State Fault Refusal :=
  .next (s.storeQueue .fpu (s.ea rs1 src))

/-- LDC (R280). -/
def execLdc (rd rs1 : RegNum) (src : Operand2) (s : State) : Host.Outcome State Fault Refusal :=
  .next (s.loadUnit .cp (s.ea rs1 src) fun w x => x.setReg rd w)

/-- LDDC (R281). -/
def execLddc (rd rs1 : RegNum) (src : Operand2) (s : State) : Host.Outcome State Fault Refusal :=
  .next (s.loadUnitPair .cp (s.ea rs1 src) rd)

/-- LDCSR (R282). -/
def execLdcsr (rs1 : RegNum) (src : Operand2) (s : State) : Host.Outcome State Fault Refusal :=
  .next (s.loadUnit .cp (s.ea rs1 src) fun w x => x.setStatus .cp w)

/-- STC (R283). -/
def execStc (rd rs1 : RegNum) (src : Operand2) (s : State) : Host.Outcome State Fault Refusal :=
  .next (s.storeUnit .cp (s.ea rs1 src) fun x => x.reg rd)

/-- STDC (R284). -/
def execStdc (rd rs1 : RegNum) (src : Operand2) (s : State) : Host.Outcome State Fault Refusal :=
  .next (s.storeUnitPair .cp (s.ea rs1 src) rd)

/-- STCSR (R285). -/
def execStcsr (rs1 : RegNum) (src : Operand2) (s : State) : Host.Outcome State Fault Refusal :=
  .next (s.storeUnit .cp (s.ea rs1 src) fun x => x.statusWord .cp)

/-- STDCQ (R286). -/
def execStdcq (rs1 : RegNum) (src : Operand2) (s : State) : Host.Outcome State Fault Refusal :=
  .next (s.storeQueue .cp (s.ea rs1 src))

end Sys2Proof.Machine
end

