-- ==== Sys2Proof/Machine/Uses.lean ====
section
/-! DEFINITION. What an instruction uses, as far as parity is checked only on what is used (spec 60_exceptions.md R541,
R584): the r registers it reads, Y, the WIM and TBA; the data a load receives and the destination of that data. Which
fields count is DEDUCED from the instructions' own rules (10_state.md R47, 70_reset_and_hazards.md R632; log 34). -/

namespace Sys2Proof.Machine

/-! ## r registers -/

/-- The registers an operand reads. -/
def operandReads : Operand2 → List RegNum
  | .reg rs2 => [rs2]
  | .imm _ => []

/-- The registers the source of a shift count reads. -/
def shiftReads : ShiftSource → List RegNum
  | .reg rs2 => [rs2]
  | .imm _ => []

/-- The registers an alternate-space instruction reads, with `data` those of its data. That its word with i = 1, which is
illegal (40_load_store.md R240), reads none is DESIGN CHOICE (the spec is silent; log 34). -/
def altReads (data : List RegNum) (rs1 : RegNum) : AltSource → List RegNum
  | .reg _ rs2 => data ++ [rs1, rs2]
  | .imm _ => []

/-- The numbers of the r registers an instruction reads (10_state.md R47): of its operands, and of the data a store or a
swap takes from r[rd]. That IFLUSH reads none is DESIGN CHOICE: R47 counts r[rs1] and r[rs2] of every format 3 instruction
as read, 46_misc.md R503 says that the address they give is not used (log 34). -/
def regReads : Instr → List RegNum
  | .ld _ rs1 src | .ldub _ rs1 src | .lduh _ rs1 src | .ldd _ rs1 src | .ldsb _ rs1 src | .ldsh _ rs1 src
  | .ldstub _ rs1 src => rs1 :: operandReads src
  | .st rd rs1 src | .stb rd rs1 src | .sth rd rs1 src | .swap rd rs1 src => rd :: rs1 :: operandReads src
  | .std rd rs1 src => pairEven rd :: pairOdd rd :: rs1 :: operandReads src
  | .lda _ rs1 src | .lduba _ rs1 src | .lduha _ rs1 src | .ldda _ rs1 src | .ldsba _ rs1 src | .ldsha _ rs1 src
  | .ldstuba _ rs1 src => altReads [] rs1 src
  | .sta rd rs1 src | .stba rd rs1 src | .stha rd rs1 src | .swapa rd rs1 src => altReads [rd] rs1 src
  | .stda rd rs1 src => altReads [pairEven rd, pairOdd rd] rs1 src
  | .ldf _ rs1 src | .lddf _ rs1 src | .stf _ rs1 src | .stdf _ rs1 src | .ldc _ rs1 src | .lddc _ rs1 src
  | .stc _ rs1 src | .stdc _ rs1 src => rs1 :: operandReads src
  | .ldfsr rs1 src | .stfsr rs1 src | .stdfq rs1 src | .ldcsr rs1 src | .stcsr rs1 src | .stdcq rs1 src =>
    rs1 :: operandReads src
  | .add _ rs1 src | .and _ rs1 src | .or _ rs1 src | .xor _ rs1 src | .sub _ rs1 src | .andn _ rs1 src
  | .orn _ rs1 src | .xnor _ rs1 src | .addx _ rs1 src | .subx _ rs1 src | .addcc _ rs1 src | .andcc _ rs1 src
  | .orcc _ rs1 src | .xorcc _ rs1 src | .subcc _ rs1 src | .andncc _ rs1 src | .orncc _ rs1 src | .xnorcc _ rs1 src
  | .addxcc _ rs1 src | .subxcc _ rs1 src | .taddcc _ rs1 src | .tsubcc _ rs1 src | .taddcctv _ rs1 src
  | .tsubcctv _ rs1 src | .mulscc _ rs1 src => rs1 :: operandReads src
  | .sll _ rs1 cnt | .srl _ rs1 cnt | .sra _ rs1 cnt => rs1 :: shiftReads cnt
  | .jmpl _ rs1 src | .rett rs1 src | .save _ rs1 src | .restore _ rs1 src => rs1 :: operandReads src
  | .tn rs1 src | .te rs1 src | .tle rs1 src | .tl rs1 src | .tleu rs1 src | .tcs rs1 src | .tneg rs1 src
  | .tvs rs1 src | .ta rs1 src | .tne rs1 src | .tg rs1 src | .tge rs1 src | .tgu rs1 src | .tcc rs1 src
  | .tpos rs1 src | .tvc rs1 src => rs1 :: operandReads src
  | .wry rs1 src | .wrpsr rs1 src | .wrwim rs1 src | .wrtbr rs1 src => rs1 :: operandReads src
  | _ => []

/-- The stored registers an instruction reads in the current window; r[0] is no storage (60_exceptions.md R585). -/
def State.physReads (s : State) (i : Instr) : List PhysReg :=
  ((regReads i).map (phys s.psr.cwp)).filter fun p => p != .zero

/-! ## Control registers -/

/-- The instruction reads Y (70_reset_and_hazards.md R632). -/
def usesY : Instr → Bool
  | .rdy _ | .mulscc _ _ _ => true
  | _ => false

/-- The instruction reads the WIM (R632; 10_state.md R70: SAVE, RESTORE and RETT consult it). -/
def usesWim : Instr → Bool
  | .rdwim _ | .save _ _ _ | .restore _ _ _ | .rett _ _ => true
  | _ => false

/-- The instruction reads the TBR as data (R632); a trap reads TBA besides (`tookTrap`). -/
def usesTbr : Instr → Bool
  | .rdtbr _ => true
  | _ => false

/-- The instruction `i`, executed in `s` with result `t`, has taken a trap: with traps enabled it has disabled them
(60_exceptions.md R520), with traps disabled it has ended in error mode (R530). Only WRPSR can do the former without a trap
(RETT enables traps), so its trap conditions tell. -/
def tookTrap (i : Instr) (s t : State) : Bool :=
  match i with
  | .wrpsr rs1 src => (firstTrap (s.wrpsrTraps (s.writeValue rs1 src))).isSome
  | _ => if s.psr.et then !t.psr.et else t.mode == .error

/-! ## Data of a load -/

/-- What a load writes with the data it reads. -/
inductive LoadTarget where
  | nothing
  | single (rd : RegNum)
  | pair (rd : RegNum)
  | unit (u : UnitId) (rd : RegNum)
  | unitPair (u : UnitId) (rd : RegNum)
  | unitStatus (u : UnitId)
deriving DecidableEq, Repr

/-- The destination of a load (40_load_store.md, 41_fp_cp_load_store.md); every other instruction reads no data. That the
integer unit checks the parity of the data of a unit's load too is DESIGN CHOICE (R581 speaks of the data the integer unit
receives; log 34). -/
def loadTarget : Instr → LoadTarget
  | .ldsb rd _ _ | .ldsh rd _ _ | .ldub rd _ _ | .lduh rd _ _ | .ld rd _ _ => .single rd
  | .ldsba rd _ _ | .ldsha rd _ _ | .lduba rd _ _ | .lduha rd _ _ | .lda rd _ _ => .single rd
  | .ldstub rd _ _ | .swap rd _ _ | .ldstuba rd _ _ | .swapa rd _ _ => .single rd
  | .ldd rd _ _ | .ldda rd _ _ => .pair rd
  | .ldf rd _ _ => .unit .fpu rd
  | .ldc rd _ _ => .unit .cp rd
  | .lddf rd _ _ => .unitPair .fpu rd
  | .lddc rd _ _ => .unitPair .cp rd
  | .ldfsr _ _ => .unitStatus .fpu
  | .ldcsr _ _ => .unitStatus .cp
  | _ => .nothing

/-- An integer load whose address is `ea` receives data: no trap comes before its first read, and that is not refused. -/
def State.receives (s : State) (alternate : Bool) (asi : Asi) (ea : Word) (size : AccessSize) (atomic : Bool) : Bool :=
  (firstTrap (s.memTraps alternate size ea (s.refuses asi ea size .read atomic))).isNone

/-- The same for an alternate-space load. -/
def State.receivesAlt (s : State) (rs1 : RegNum) (src : AltSource) (size : AccessSize) (atomic : Bool) : Bool :=
  match src with
  | .imm _ => false
  | .reg asi rs2 => s.receives true asi (s.reg rs1 + s.reg rs2) size atomic

/-- The same for the load of a unit. -/
def State.receivesUnit (s : State) (u : UnitId) (ea : Word) (size : AccessSize) : Bool :=
  (firstTrap (s.unitTraps u false size ea (s.refuses s.dataAsi ea size .read false))).isNone

/-- The instruction receives data from memory, if only the first word of two or the read of an atomic access whose second
transaction is refused. -/
def State.receivesData (s : State) : Instr → Bool
  | .ldsb _ rs1 src | .ldub _ rs1 src => s.receives false s.dataAsi (s.ea rs1 src) .byte false
  | .ldsh _ rs1 src | .lduh _ rs1 src => s.receives false s.dataAsi (s.ea rs1 src) .half false
  | .ld _ rs1 src => s.receives false s.dataAsi (s.ea rs1 src) .word false
  | .ldd _ rs1 src => s.receives false s.dataAsi (s.ea rs1 src) .double false
  | .ldstub _ rs1 src => s.receives false s.dataAsi (s.ea rs1 src) .byte true
  | .swap _ rs1 src => s.receives false s.dataAsi (s.ea rs1 src) .word true
  | .ldsba _ rs1 src | .lduba _ rs1 src => s.receivesAlt rs1 src .byte false
  | .ldsha _ rs1 src | .lduha _ rs1 src => s.receivesAlt rs1 src .half false
  | .lda _ rs1 src => s.receivesAlt rs1 src .word false
  | .ldda _ rs1 src => s.receivesAlt rs1 src .double false
  | .ldstuba _ rs1 src => s.receivesAlt rs1 src .byte true
  | .swapa _ rs1 src => s.receivesAlt rs1 src .word true
  | .ldf _ rs1 src | .ldfsr rs1 src => s.receivesUnit .fpu (s.ea rs1 src) .word
  | .lddf _ rs1 src => s.receivesUnit .fpu (s.ea rs1 src) .double
  | .ldc _ rs1 src | .ldcsr rs1 src => s.receivesUnit .cp (s.ea rs1 src) .word
  | .lddc _ rs1 src => s.receivesUnit .cp (s.ea rs1 src) .double
  | _ => false

end Sys2Proof.Machine
end

