-- ==== Sys2Proof/Machine/Boundary.lean ====
section
/-! DEFINITION. What happens between two instructions (spec 00_scope.md R21): the board's inputs, reset, halt and error
mode, hardware errors, interrupts, annulled instructions, the instruction fetch, and what a parity error does to a load
or to an FBfcc. -/

namespace Sys2Proof.Machine

/-! ## The board's inputs -/

/-- A board that changes nothing. -/
def State.idleInput (s : State) : BoardInput :=
  { reset := false, halt := false, irl := s.irl, upsets := [], fexc := none, cexc := none, ccc := none,
    busWrites := [], mexc := none, pins := none }

/-- The input of this boundary (log 26). -/
def State.input (s : State) : BoardInput := s.board.headD s.idleInput

/-- FEXC, CEXC: the unit has found an exception and shows this queue and this state register, whose condition codes stay
(10_state.md R86, 60_exceptions.md R556, 45_fpop_cpop.md R481). That the state register after it is the board's input is
DESIGN CHOICE (R481 says only that its tt field holds the type; log 27). -/
def CoUnit.signal (x : CoUnit) : Option UnitException → CoUnit
  | none => x
  | some e => { x with excPending := true, queue := e.queue, status := e.status }

/-- CCC<1:0> as the coprocessor drives it (45_fpop_cpop.md R492). -/
def CoUnit.drive (x : CoUnit) : Option (BitVec 2) → CoUnit
  | none => x
  | some cc => { x with cc := cc }

/-- A write by another bus master (20_memory.md R136, R143). -/
def State.busWrite (s : State) (w : BusWrite) : State := s.store w.asi w.addr w.bytes

/-- The board's input is applied; an output of the step before ends, HWERROR outside execute mode only by reset
(60_exceptions.md R567, R587; log 39). -/
def State.accept (s : State) (inp : BoardInput) : State :=
  { inp.busWrites.foldl State.busWrite s with
    board := s.board.tail
    irl := inp.irl
    intack := false
    hwerror := if s.mode = .execute && !inp.halt then false else s.hwerror
    fpu := s.fpu.signal inp.fexc
    cp := (s.cp.signal inp.cexc).drive inp.ccc
    mexc := inp.mexc.getD s.mexc
    pins := inp.pins.getD s.pins }

/-- The board changes a static pin although the machine is neither reset nor halted (60_exceptions.md R602). That CP and IFT, too,
may change during reset or halt is DESIGN CHOICE: R602 and 70_reset_and_hazards.md R682 name 601MODE, FLOW, CMODE and FP only,
00_scope.md R9 calls all six constant for a run (log 40). -/
def State.breaksPins (s : State) (inp : BoardInput) : Bool :=
  !inp.reset && !inp.halt && inp.pins.getD s.pins != s.pins

/-! ## Reset -/

/-- Reset as RESET is deasserted (70_reset_and_hazards.md R620). The attached units share the line; what they hold then
is free (R623; log 38). -/
def State.leaveReset (s₀ : State) : State :=
  let s := s₀.settleLate
  { (s.unsettle .fpu).unsettle .cp with
    psr := { s.psr with et := false, s := true }
    pc := 0#32
    npc := 4#32
    annul := false
    prev := .other
    pfcSum := 0#32
    pfcSkip := false
    recent := []
    hwerror := false
    mode := .execute }

/-! ## Hardware errors and interrupts -/

/-- A hardware error trap, with HWERROR asserted (R580). -/
def State.hardwareTrap (s : State) (t : Trap) : State := { s.raise t with hwerror := true }

/-- An interrupt request is to be taken (R566). -/
def State.interruptPending (s : State) : Bool := s.psr.et && (s.irl == 15#4 || s.psr.pil < s.irl)

/-- Taking the interrupt (R566, R567). -/
def State.takeInterrupt (s : State) : State := { s.raise (.interrupt s.irl) with intack := true }

/-! ## Instruction fetch -/

/-- One of the stores the prefetch path may not have seen changed a byte of the word at PC (20_memory.md R142). -/
def State.fetchOverlaps (s : State) : Bool :=
  let key := memKey s.instrAsi s.pc
  s.recent.any fun r => decide (0 < r.left) && r.old.any fun c => decide (key ≤ c.1) && decide (c.1 < key + 4)

/-- The bytes a store replaced, put back. -/
def Memory.restore (m : Memory) (old : List Host.Cell) : Memory := old.foldl (fun m c => m.write c.1 c.2) m

/-- Memory as it was before the newest `n` of the recent stores. -/
def State.memBefore (s : State) (n : Nat) : Memory := (s.recent.take n).foldl (fun m r => m.restore r.old) s.mem

/-- The word fetched at PC (00_scope.md R24); where a recent store changed it, the word of an earlier moment, a free
choice (20_memory.md R142; log 17). -/
def State.fetchedWord (s : State) : Word :=
  if s.fetchOverlaps then
    { s with mem := s.memBefore (Config.unseenStores s.free % (s.recent.length + 1)) }.readWord s.instrAsi s.pc
  else s.readWord s.instrAsi s.pc

/-- The draw of that choice. -/
def State.afterFetch (s : State) : State := { s with free := if s.fetchOverlaps then s.free + 1 else s.free }

/-- The fetch is refused (R122, R141). -/
def State.fetchRefused (s : State) : Bool := s.refuses s.instrAsi s.pc .word .fetch false

/-- A word that counts in the program flow checksum when executed: not the NOP, nor a check word but by the parameter
`pfcIncludesCheckWord` (60_exceptions.md R591 to R593; log 24). -/
def State.countsInFlow (s : State) (w : Word) : Bool :=
  w != 0x01000000#32 && (s.params.pfcIncludesCheckWord || (w &&& 0xFFFF0000#32) != 0x011F0000#32)

/-- One more instruction word was fetched: the prefetch path has seen older stores (20_memory.md R142). -/
def tickStores (recent : List RecentStore) : List RecentStore :=
  (recent.map fun r => { r with left := r.left - 1 }).filter fun r => decide (0 < r.left)

/-- The fetched word `w` is latched for execution (45_fpop_cpop.md R442) and counted (60_exceptions.md R591). -/
def State.latch (s : State) (w : Word) : State :=
  { s.afterFetch with
    ir := w
    pfcSum := if s.pins.flowEnabled && s.countsInFlow w then s.pfcSum ^^^ w else s.pfcSum
    recent := tickStores s.recent }

/-- The instruction at PC is annulled (00_scope.md R21 step 2, R23); its word counts in the checksum all the same
(60_exceptions.md R594; log 24). -/
def State.skip (s : State) : State :=
  let t := { s with annul := false }.advance
  if !s.pins.flowEnabled then t
  else if s.fetchRefused then { t with pfcSum := Config.unfetchedSum s.free, free := s.free + 1 }
  else { t with pfcSum := s.pfcSum ^^^ s.fetchedWord, free := s.afterFetch.free }

/-! ## Parity errors of what an instruction uses -/

/-- The instruction about to be executed; none if it is annulled or its fetch is refused. -/
def State.current (s : State) : Option Instr :=
  if s.annul || s.fetchRefused then none else some (decode s.fetchedWord)

/-- The parity of a register is wrong when it is read: an upset at its site, or it was never written (R584, R585,
70_reset_and_hazards.md R632). -/
def wrongParity (inp : BoardInput) (site : UpsetSite) (written : Bool) : Bool :=
  inp.upsets.contains site || (inp.upsets.contains .neverWritten && !written)

/-- The parity errors that are traps before the instruction `cur`, in the order of R586, but for restartable precise ones.
The written bits are those the boundary finds, also when a trap's entry sees a write of TBA that is still late: DESIGN CHOICE
(R584, R647 are silent; log 22). The program counters and the PSR are used by every instruction, the WIM, the TBR and the register file by those that read
them, the TBR by an interrupt and by a refused fetch too (R541, R584). That a hardware error trap, which uses TBA like any
trap, stays what it is when TBA has wrong parity is DESIGN CHOICE (R586, R632 are silent; log 34). An annulled instruction cannot trap, so with annul
set only the imprecise ones and an interrupt's count (00_scope.md R23; log 34). -/
def State.hardwareTraps (s : State) (inp : BoardInput) (cur : Option Instr) : List (Bool × Trap) :=
  [(inp.upsets.contains .executePc || inp.upsets.contains .psr, .imprecise),
   ((!s.annul && inp.upsets.contains .decodePc) || (cur.any usesWim && wrongParity inp .wim s.written.wim) ||
      ((cur.any usesTbr || s.interruptPending || (!s.annul && s.fetchRefused)) && wrongParity inp .tbr s.written.tba),
     .nonRestartable),
   (cur.any fun i => (s.physReads i).any fun p => wrongParity inp .registerFile (s.physWritten p), .registerFile)]

/-- A restartable precise error: FPC, Y where it is read, or the fetched word (R581, R583, R584). -/
def State.preciseError (s : State) (inp : BoardInput) (cur : Option Instr) : Bool :=
  (!s.annul && inp.upsets.contains .fetchPc) || (cur.any usesY && wrongParity inp .y s.written.y) ||
    (cur.isSome && inp.upsets.contains .fetchData && s.pins.busParityEnabled)

/-! ## The boundary as a whole -/

/-- How a step boundary ends: the machine is halted for good, the board broke its obligation, the step is over with a
next state, or the word fetched is to be executed. -/
inductive Boundary where
  | halted
  | pinChanged
  | over (s : State)
  | run (word : Word) (s : State)
deriving DecidableEq, Repr

/-- The boundary in execute mode (R21 steps 1 to 3). -/
def State.executeBoundary (s : State) (inp : BoardInput) : Boundary :=
  match firstTrap (s.hardwareTraps inp s.current) with
  | some t => .over (s.hardwareTrap t)
  | none =>
    if s.interruptPending && !s.preciseError inp s.current then .over s.takeInterrupt
    else if s.annul then .over s.skip
    else if s.fetchRefused then
      .over (if s.preciseError inp s.current then s.hardwareTrap .restartablePrecise else s.raise .instructionAccess)
    else .run s.fetchedWord (s.latch s.fetchedWord)

/-- The boundary once the board's input is applied (R20, R602, R620; 60_exceptions.md R531); an error of the coding of the
RESET signal leads to error mode (R532; log 34). That reset ends with RESET, whether HALT is asserted or not, is DESIGN
CHOICE (R620, R602, R622 do not say; log 36), unsafe. -/
def State.acceptedBoundary (s : State) (inp : BoardInput) : Boundary :=
  if inp.reset then .over { s with mode := .reset }
  else
    match s.mode with
    | .reset => .over s.leaveReset
    | .error => .over s
    | .execute =>
      if inp.halt then .over s
      else if inp.upsets.contains .resetLine then .over { s with mode := .error }
      else s.tickLate.executeBoundary inp

/-- What happens at a step boundary. -/
def State.boundary (s : State) : Boundary :=
  if s.mode = .error && s.board.isEmpty then .halted
  else if s.breaksPins s.input then .pinChanged
  else (s.accept s.input).acceptedBoundary s.input

/-! ## Parity errors on the data of an instruction -/

/-- The word is an FBfcc (30_encoding.md R154). -/
def isFBfcc (w : Word) : Bool := opField w == 0b00#2 && op2Field w == 0b110#3

/-- An FBfcc finds a parity error on the FPU's signals (60_exceptions.md R582, R583; log 35). -/
def State.fiparError (s : State) (inp : BoardInput) (w : Word) : Bool :=
  inp.upsets.contains .fpuSignals && s.pins.busParityEnabled && isFBfcc w

/-- The trap it takes then (R582); whether HWERROR is asserted is free. -/
def State.fiparTrap (s : State) : State :=
  { s.raise .fpDisabled with hwerror := Config.fiparHwerror s.free, free := s.free + 1 }

/-- What the load wrote is free (R581: the source does not say whether the register received the bad word; log 34). That an
r register then counts as written, its parity bit initialised, is DESIGN CHOICE (R581, R585 are silent; log 34, 37). -/
def State.spoil (s : State) : LoadTarget → State
  | .nothing => s
  | .single rd => { s.setReg rd (Config.lateLoadWord s.free 0) with free := s.free + 1 }
  | .pair rd =>
    { (s.setReg (pairEven rd) (Config.lateLoadWord s.free 0)).setReg (pairOdd rd) (Config.lateLoadWord s.free 1) with
      free := s.free + 1 }
  | .unit u rd => { s.setUnit u ((s.unit u).setReg rd (Config.lateLoadWord s.free 0)) with free := s.free + 1 }
  | .unitPair u rd =>
    { s.setUnit u ((s.unit u).setPair rd (Config.lateLoadWord s.free 0) (Config.lateLoadWord s.free 1)) with
      free := s.free + 1 }
  | .unitStatus u => { s.setUnit u ((s.unit u).setStatus u (Config.lateLoadWord s.free 0)) with free := s.free + 1 }

/-- The state after a load that received data with wrong parity, before its trap: as the load leaves it, or, where its
second transaction is refused and nothing is done (20_memory.md R124), past it, the late error coming after it (R581). That
LDSTUB, SWAP and their alternate forms perform their memory write although the data they read has wrong parity is DESIGN CHOICE
(R581 is silent; log 34). -/
def State.afterLoad (s : State) (i : Instr) (t : State) : State := if tookTrap i s t then s.advance else t

/-- The end of the step of an instruction executed in `s` with result `t`, once the parity errors of its own are counted, in
the order of R586: of the TBR, which a trap reads (70_reset_and_hazards.md R632); a late error of load data (R580, R581); a
restartable precise one. The first and the last leave the instruction undone. A hardware error trap taken here is not asked for
its own use of the TBR: DESIGN CHOICE (log 34). The written bit of TBA is the one the instruction found, also when the entry of its
trap sees a write of TBA that is still late: DESIGN CHOICE (log 22). -/
def State.finish (s : State) (inp : BoardInput) (i : Instr) (t : State) : State :=
  if tookTrap i s t && wrongParity inp .tbr s.written.tba then s.hardwareTrap .nonRestartable
  else if inp.upsets.contains .loadData && s.pins.busParityEnabled && s.receivesData i then
    ((s.afterLoad i t).spoil (loadTarget i)).hardwareTrap .restartableLate
  else if s.preciseError inp (some i) then s.hardwareTrap .restartablePrecise
  else t

end Sys2Proof.Machine
end

