-- ==== Sys2Proof/Machine/Float.lean ====
section
/-! DEFINITION. Floating-point numbers in the formats of the spec (45_fpop_cpop.md R443 to R445) and the arithmetic of
IEEE 754 as far as it is the same for every rounding mode and raises no exception but inexact: exact results that the
destination format holds, infinities, ordered and unordered comparison. Whatever else an FPop delivers is `none` here and
a free value of the machine. PRESUMED as a whole (log 28): the spec names IEEE 754 and gives no operation (R480). -/

namespace Sys2Proof.Machine

/-- The formats of an FPop's operands: a 32-bit integer, single, double, extended (R443 to R445). -/
inductive FpFormat where
  | int
  | single
  | double
  | extended
deriving DecidableEq, Repr

/-- A floating-point datum by class: NaN, signaling or quiet, infinity, or the number ± m * 2^e (zero when m = 0). -/
inductive FpVal where
  | nan (signaling : Bool)
  | inf (neg : Bool)
  | num (neg : Bool) (m : Nat) (e : Int)
deriving DecidableEq, Repr

/-- The datum with a sign, a biased exponent field `e` and a fraction field `f` of `p` bits, in a format whose largest
exponent field is `emax` and whose bias is `bias` (Table 2, R443, R444); the highest bit of the fraction tells a quiet NaN
from a signaling one. -/
def binaryVal (neg : Bool) (e f p emax : Nat) (bias : Int) : FpVal :=
  if e = emax then (if f = 0 then .inf neg else .nan (!f.testBit (p - 1)))
  else if e = 0 then .num neg f (1 - bias - p)
  else .num neg (2 ^ p + f) (e - bias - p)

/-- The datum of an extended operand (Table 3, R445), none for a pattern the table gives no class (j = 0 with a non-zero
exponent, j = 1 with exponent 0). The subnormal exponent is -16383, as printed; bit 62 of the fraction tells the NaNs
apart. -/
def extendedVal (neg : Bool) (e j f : Nat) : Option FpVal :=
  if e = 32767 then some (if f = 0 then .inf neg else .nan (!f.testBit 62))
  else if e = 0 then (if j = 0 then some (.num neg f (-16383 - 63)) else none)
  else if j = 1 then some (.num neg (2 ^ 63 + f) (e - 16383 - 63))
  else none

/-- The datum held in the low bits of an operand. -/
def FpFormat.decode (t : FpFormat) (x : BitVec 128) : Option FpVal :=
  match t with
  | .int =>
    let v := (x.extractLsb' 0 32).toInt
    some (.num (v < 0) v.natAbs 0)
  | .single =>
    some (binaryVal (x.getLsbD 31) (x.extractLsb' 23 8).toNat (x.extractLsb' 0 23).toNat 23 255 127)
  | .double =>
    some (binaryVal (x.getLsbD 63) (x.extractLsb' 52 11).toNat (x.extractLsb' 0 52).toNat 52 2047 1023)
  | .extended =>
    extendedVal (x.getLsbD 127) (x.extractLsb' 112 15).toNat (x.extractLsb' 95 1).toNat (x.extractLsb' 32 63).toNat

/-- m * 2^k when it is a natural number. -/
def shiftExact (m : Nat) (k : Int) : Option Nat :=
  if 0 ≤ k then some (m * 2 ^ k.toNat)
  else if m % 2 ^ (-k).toNat = 0 then some (m / 2 ^ (-k).toNat) else none

/-- The exponent field and fraction field that stand for m * 2^e exactly, in a format of `p` fraction bits, bias `bias`,
largest exponent field `emax`, whose subnormals are multiples of 2^`sub`; none if no pattern does. -/
def exactFields (m : Nat) (e : Int) (p emax : Nat) (bias sub : Int) : Option (Nat × Nat) :=
  if m = 0 then some (0, 0)
  else
    let field := e + m.log2 + bias
    if emax ≤ field then none
    else if 1 ≤ field then
      match shiftExact m ((p : Int) - m.log2) with
      | some sig => some (field.toNat, sig - 2 ^ p)
      | none => none
    else
      match shiftExact m (e - sub) with
      | some f => if f < 2 ^ p then some (0, f) else none
      | none => none

/-- The pattern of a datum in a format when exactly one is determined; `junk` fills the bits the format leaves open
(reserved fields, j of an infinity; R445). -/
def FpFormat.encode (t : FpFormat) (junk : BitVec 128) (x : FpVal) : Option (BitVec 128) :=
  match t, x with
  | _, .nan _ => none
  | .int, .inf _ => none
  | .int, .num neg m e =>
    let a := if 0 ≤ e then m * 2 ^ e.toNat else m / 2 ^ (-e).toNat
    let v : Int := if neg then -(a : Int) else a
    if -2147483648 ≤ v ∧ v ≤ 2147483647 then some ((BitVec.ofInt 32 v).setWidth 128) else none
  | .single, .inf neg => some ((BitVec.ofBool neg ++ 255#8 ++ 0#23).setWidth 128)
  | .single, .num neg m e =>
    match exactFields m e 23 255 127 (-149) with
    | some (ef, f) => some ((BitVec.ofBool neg ++ BitVec.ofNat 8 ef ++ BitVec.ofNat 23 f).setWidth 128)
    | none => none
  | .double, .inf neg => some ((BitVec.ofBool neg ++ 2047#11 ++ 0#52).setWidth 128)
  | .double, .num neg m e =>
    match exactFields m e 52 2047 1023 (-1074) with
    | some (ef, f) => some ((BitVec.ofBool neg ++ BitVec.ofNat 11 ef ++ BitVec.ofNat 52 f).setWidth 128)
    | none => none
  | .extended, .inf neg =>
    some (BitVec.ofBool neg ++ 32767#15 ++ junk.extractLsb' 96 16 ++ junk.extractLsb' 95 1 ++ 0#63 ++
      junk.extractLsb' 0 32)
  | .extended, .num neg m e =>
    match exactFields m e 63 32767 16383 (-16383 - 63) with
    | some (ef, f) =>
      some (BitVec.ofBool neg ++ BitVec.ofNat 15 ef ++ junk.extractLsb' 96 16 ++ BitVec.ofBool (ef != 0) ++
        BitVec.ofNat 63 f ++ junk.extractLsb' 0 32)
    | none => none

/-! ## Operations -/

/-- m with its sign, in units of 2^`unit` (`unit` at most its exponent). -/
def scaled (neg : Bool) (m : Nat) (e unit : Int) : Int :=
  let a : Int := (m * 2 ^ (e - unit).toNat : Nat)
  if neg then -a else a

/-- The sum of two data (R456 to R458); none where IEEE 754 asks for the rounding mode (a zero sum of opposite signs) or
raises invalid. -/
def FpVal.add (x y : FpVal) : Option FpVal :=
  match x, y with
  | .nan _, _ => none
  | _, .nan _ => none
  | .inf a, .inf b => if a = b then some (.inf a) else none
  | .inf a, .num _ _ _ => some (.inf a)
  | .num _ _ _, .inf b => some (.inf b)
  | .num a m e, .num b n f =>
    let unit := min e f
    let v := scaled a m e unit + scaled b n f unit
    if v = 0 then (if a = b then some (.num a 0 0) else none) else some (.num (v < 0) v.natAbs unit)

/-- The negation of a datum. -/
def FpVal.neg : FpVal → FpVal
  | .nan b => .nan b
  | .inf a => .inf (!a)
  | .num a m e => .num (!a) m e

/-- The difference (R459 to R461). -/
def FpVal.sub (x y : FpVal) : Option FpVal := x.add y.neg

/-- The product (R462 to R464); none for a NaN and for zero times infinity. -/
def FpVal.mul (x y : FpVal) : Option FpVal :=
  match x, y with
  | .nan _, _ => none
  | _, .nan _ => none
  | .inf a, .inf b => some (.inf (a ^^ b))
  | .inf a, .num b n _ => if n = 0 then none else some (.inf (a ^^ b))
  | .num a m _, .inf b => if m = 0 then none else some (.inf (a ^^ b))
  | .num a m e, .num b n f => some (.num (a ^^ b) (m * n) (e + f))

/-- The quotient (R465 to R467); none where a divisor is zero, for a NaN, for infinity by infinity, and where the exact
quotient is no number of a binary format. -/
def FpVal.div (x y : FpVal) : Option FpVal :=
  match x, y with
  | .nan _, _ => none
  | _, .nan _ => none
  | .inf _, .inf _ => none
  | .inf a, .num b _ _ => some (.inf (a ^^ b))
  | .num a _ _, .inf b => some (.num (a ^^ b) 0 0)
  | .num a m e, .num b n f =>
    if n = 0 then none
    else
      let two := Nat.gcd n (2 ^ n.log2)
      let odd := n / two
      if m % odd = 0 then some (.num (a ^^ b) (m / odd) (e - f - two.log2)) else none

/-- The integer square root, `k` bits from bit `k - 1` down, above the part `r` already found. -/
def isqrt (m : Nat) : Nat → Nat → Nat
  | 0, r => r
  | k + 1, r => isqrt m k (if (r + 2 ^ k) * (r + 2 ^ k) ≤ m then r + 2 ^ k else r)

/-- The square root (R453 to R455); none for a NaN, a negative number and an inexact root. -/
def FpVal.sqrt : FpVal → Option FpVal
  | .nan _ => none
  | .inf a => if a then none else some (.inf false)
  | .num a m e =>
    if m = 0 then some (.num a 0 0)
    else if a then none
    else
      let m' := if e % 2 = 0 then m else 2 * m
      let e' := if e % 2 = 0 then e else e - 1
      let r := isqrt m' (m'.log2 / 2 + 1) 0
      if r * r = m' then some (.num false r (e' / 2)) else none

/-- The fcc value of a comparison (43_control_transfer.md R375): 0 equal, 1 less, 2 greater, 3 unordered. -/
def FpVal.compare (x y : FpVal) : BitVec 2 :=
  let order (a b : Int) : BitVec 2 := if a = b then 0#2 else if a < b then 1#2 else 2#2
  let infinite (neg : Bool) : Int := if neg then -1 else 1
  match x, y with
  | .nan _, _ => 3#2
  | _, .nan _ => 3#2
  | .inf a, .inf b => order (infinite a) (infinite b)
  | .inf a, .num _ _ _ => order (infinite a) 0
  | .num _ _ _, .inf b => order 0 (infinite b)
  | .num a m e, .num b n f => order (scaled a m e (min e f)) (scaled b n f (min e f))

/-- The pattern of an operation of one operand, from format `src` to format `dst`. -/
def unaryPattern (src dst : FpFormat) (f : FpVal → Option FpVal) (junk a : BitVec 128) : Option (BitVec 128) :=
  ((src.decode a).bind f).bind (dst.encode junk)

/-- The pattern of an operation of two operands of one format. -/
def binaryPattern (t : FpFormat) (f : FpVal → FpVal → Option FpVal) (junk a b : BitVec 128) : Option (BitVec 128) :=
  (t.decode a).bind fun x => (t.decode b).bind fun y => (f x y).bind (t.encode junk)

/-- The fcc value of a comparison of two patterns: unordered when either is a NaN (45_fpop_cpop.md R485, R488), whatever the
other; none where a pattern has no class otherwise. -/
def comparePatterns (t : FpFormat) (a b : BitVec 128) : Option (BitVec 2) :=
  match t.decode a, t.decode b with
  | some (.nan _), _ => some 3#2
  | _, some (.nan _) => some 3#2
  | some x, some y => some (x.compare y)
  | _, _ => none

end Sys2Proof.Machine
end

