-- ==== Sys2Proof/Machine/FpCpOps.lean ====
section
/-! DEFINITION. Floating-point-operate and coprocessor-operate instructions (spec 45_fpop_cpop.md): the shared
operations, then one meaning per instruction. The FPU executes an FPop to completion at its launch (R447 item 1; log 27);
a result the spec determines only up to rounding, exceptions or FSR fields is a free value (R480; log 28, 29). -/

namespace Sys2Proof.Machine

/-! ## Operands of the FPU -/

/-- A register number fits its operand: even for a double, a multiple of 4 for an extended operand (R446). -/
def FpFormat.fits (t : FpFormat) (n : RegNum) : Bool :=
  match t with
  | .int | .single => true
  | .double => n &&& 1#5 == 0#5
  | .extended => n &&& 3#5 == 0#5

/-- The operand at register `n` (R443 to R445), the most significant word in the lowest register. -/
def CoUnit.operand (x : CoUnit) (t : FpFormat) (n : RegNum) : BitVec 128 :=
  match t with
  | .int | .single => (x.reg n).setWidth 128
  | .double => (x.reg n ++ x.reg (n + 1#5)).setWidth 128
  | .extended => x.reg n ++ x.reg (n + 1#5) ++ x.reg (n + 2#5) ++ x.reg (n + 3#5)

/-- The operand at register `n` becomes `v`. -/
def CoUnit.setOperand (x : CoUnit) (t : FpFormat) (n : RegNum) (v : BitVec 128) : CoUnit :=
  match t with
  | .int | .single => x.setReg n (v.extractLsb' 0 32)
  | .double => (x.setReg n (v.extractLsb' 32 32)).setReg (n + 1#5) (v.extractLsb' 0 32)
  | .extended =>
    (((x.setReg n (v.extractLsb' 96 32)).setReg (n + 1#5) (v.extractLsb' 64 32)).setReg (n + 2#5)
      (v.extractLsb' 32 32)).setReg (n + 3#5) (v.extractLsb' 0 32)

/-! ## Shared operations -/

/-- The end of an instruction a unit was given. -/
def State.launched (s : State) (u : UnitId) (x : CoUnit) : State := { s.setUnit u x with free := s.free + 1 }.advance

/-- The unit finds an exception in the instruction just launched: exception pending, the instruction and its address in
the queue (R447, R482; 60_exceptions.md R556). -/
def CoUnit.fail (x : CoUnit) (addr instr : Word) : CoUnit :=
  { x with excPending := true, queue := x.queue ++ [{ addr := addr, instr := instr }] }

/-- A unit after an operation whose outcome the spec leaves open: its registers, state register and condition codes are
free, and so is whether it finds an exception; if it does, it has the instruction in its queue (R447 items 2 and 3). -/
def CoUnit.openOutcome (x : CoUnit) (k : Nat) (addr instr : Word) : CoUnit :=
  let done : CoUnit :=
    { x with
      regs := Vector.ofFn fun i => Config.unitReg k i.val
      status := Config.unitStatus k
      cc := Config.unitCc k }
  if Config.unitPending k then done.fail addr instr else done

/-- Such an operation; in exception mode everything in the unit is free after it (R447 item 4; log 30). -/
def State.openOperation (s : State) (u : UnitId) : State :=
  if (s.unit u).excMode then (s.unsettle u).advance
  else s.launched u ((s.unit u).openOutcome s.free s.pc s.ir)

/-- The FPU is given an FPop (R441): `regsFit` tells whether its register numbers fit its operands (R446). In exception
mode (R447 item 4; log 30) and for numbers that do not fit (log 28) its outcome is open. -/
def State.fpop (s : State) (regsFit : Bool) (done : State) : State :=
  s.attempt (s.operateTraps .fpu) (if s.fpu.excMode || !regsFit then s.openOperation .fpu else done)

/-- The FPU after an FPop with a destination operand: `exact` is the pattern the spec determines, given free bits to fill
its open fields; where it determines none, and where the FPU ends in an exception, the destination is free. -/
def State.fpResult (s : State) (opf : BitVec 9) (dst : FpFormat) (rd : RegNum) (a b : BitVec 128)
    (exact : BitVec 128 → Option (BitVec 128)) : State :=
  let x := s.fpu
  let fsr := x.statusWord .fpu
  let free := Config.fpopResult s.free opf fsr a b
  let status := Config.fsrAfter s.free opf fsr a b
  if Config.fpopRaises s.free opf fsr a b then
    s.launched .fpu ({ x.setOperand dst rd free with status := status }.fail s.pc s.ir)
  else s.launched .fpu { x.setOperand dst rd ((exact free).getD free) with status := status }

/-- An FPop of one operand (rs1 ignored). -/
def State.fpUnary (s : State) (opf : BitVec 9) (src dst : FpFormat) (rd rs2 : RegNum) (f : FpVal → Option FpVal) :
    State :=
  s.fpop (src.fits rs2 && dst.fits rd)
    (s.fpResult opf dst rd 0#128 (s.fpu.operand src rs2) fun junk => unaryPattern src dst f junk (s.fpu.operand src rs2))

/-- An FPop of two operands. -/
def State.fpBinary (s : State) (opf : BitVec 9) (t : FpFormat) (rd rs1 rs2 : RegNum)
    (f : FpVal → FpVal → Option FpVal) : State :=
  s.fpop (t.fits rs1 && t.fits rs2 && t.fits rd)
    (s.fpResult opf t rd (s.fpu.operand t rs1) (s.fpu.operand t rs2) fun junk =>
      binaryPattern t f junk (s.fpu.operand t rs1) (s.fpu.operand t rs2))

/-- An FPop on the bits of one register, without arithmetic (R450 to R452). -/
def State.fpBits (s : State) (opf : BitVec 9) (rd rs2 : RegNum) (f : Word → Word) : State :=
  s.fpop true
    (s.fpResult opf .single rd 0#128 (s.fpu.operand .single rs2) fun _ => some ((f (s.fpu.reg rs2)).setWidth 128))

/-- The FPU after a compare (R483 to R488): the condition codes, free where the operands have no class and where the FPU
ends in an exception. -/
def State.fpCompareResult (s : State) (opf : BitVec 9) (a b : BitVec 128) (exact : Option (BitVec 2)) : State :=
  let x := s.fpu
  let fsr := x.statusWord .fpu
  let free := Config.fpopCc s.free opf fsr a b
  let status := Config.fsrAfter s.free opf fsr a b
  if Config.fpopRaises s.free opf fsr a b then
    s.launched .fpu ({ x with cc := free, status := status }.fail s.pc s.ir)
  else s.launched .fpu { x with cc := exact.getD free, status := status }

/-- The last instruction executed is now a compare (43_control_transfer.md R378); a trap taken instead is none. -/
def State.afterCompare (s : State) (u : UnitId) : State :=
  { s with prev := match u with | .fpu => .fpCompare | .cp => .cpOperate }

/-- A compare of two operands (R483 to R488; rd ignored). -/
def State.fpCompare (s : State) (opf : BitVec 9) (t : FpFormat) (rs1 rs2 : RegNum) : State :=
  s.attempt (s.operateTraps .fpu)
    ((if s.fpu.excMode || !(t.fits rs1 && t.fits rs2) then s.openOperation .fpu
      else s.fpCompareResult opf (s.fpu.operand t rs1) (s.fpu.operand t rs2)
        (comparePatterns t (s.fpu.operand t rs1) (s.fpu.operand t rs2))).afterCompare .fpu)

/-- A reserved opf (R482): no trap now; the FPU finds the instruction unimplemented and has an exception pending. -/
def State.fpReserved (s : State) (opf : BitVec 9) : State :=
  s.fpop true
    (s.launched .fpu
      ({ s.fpu with status := Config.fsrAfter s.free opf (s.fpu.statusWord .fpu) 0#128 0#128 }.fail s.pc s.ir))

/-- A CPop (R491 to R493): what it computes is defined by the designer of the coprocessor (log 32). -/
def State.cpop (s : State) : State := s.attempt (s.operateTraps .cp) ((s.openOperation .cp).afterCompare .cp)

/-! ## The instructions -/

/-- FMOVs (R450): a copy, and never an exception. -/
def execFmovs (rd rs2 : RegNum) (s : State) : Host.Outcome State Fault Refusal :=
  .next (s.fpop true
    (s.launched .fpu { s.fpu.setReg rd (s.fpu.reg rs2) with
      status := Config.fsrAfter s.free 0x001#9 (s.fpu.statusWord .fpu) 0#128 (s.fpu.operand .single rs2) }))

/-- FNEGs (R451). -/
def execFnegs (rd rs2 : RegNum) (s : State) : Host.Outcome State Fault Refusal :=
  .next (s.fpBits 0x005#9 rd rs2 fun w => w ^^^ 0x80000000#32)

/-- FABSs (R452). -/
def execFabss (rd rs2 : RegNum) (s : State) : Host.Outcome State Fault Refusal :=
  .next (s.fpBits 0x009#9 rd rs2 fun w => w &&& 0x7FFFFFFF#32)

/-- FSQRTs (R453). -/
def execFsqrts (rd rs2 : RegNum) (s : State) : Host.Outcome State Fault Refusal :=
  .next (s.fpUnary 0x029#9 .single .single rd rs2 FpVal.sqrt)

/-- FSQRTd (R454). -/
def execFsqrtd (rd rs2 : RegNum) (s : State) : Host.Outcome State Fault Refusal :=
  .next (s.fpUnary 0x02a#9 .double .double rd rs2 FpVal.sqrt)

/-- FSQRTx (R455). -/
def execFsqrtx (rd rs2 : RegNum) (s : State) : Host.Outcome State Fault Refusal :=
  .next (s.fpUnary 0x02b#9 .extended .extended rd rs2 FpVal.sqrt)

/-- FADDs (R456). -/
def execFadds (rd rs1 rs2 : RegNum) (s : State) : Host.Outcome State Fault Refusal :=
  .next (s.fpBinary 0x041#9 .single rd rs1 rs2 FpVal.add)

/-- FADDd (R457). -/
def execFaddd (rd rs1 rs2 : RegNum) (s : State) : Host.Outcome State Fault Refusal :=
  .next (s.fpBinary 0x042#9 .double rd rs1 rs2 FpVal.add)

/-- FADDx (R458). -/
def execFaddx (rd rs1 rs2 : RegNum) (s : State) : Host.Outcome State Fault Refusal :=
  .next (s.fpBinary 0x043#9 .extended rd rs1 rs2 FpVal.add)

/-- FSUBs (R459). -/
def execFsubs (rd rs1 rs2 : RegNum) (s : State) : Host.Outcome State Fault Refusal :=
  .next (s.fpBinary 0x045#9 .single rd rs1 rs2 FpVal.sub)

/-- FSUBd (R460). -/
def execFsubd (rd rs1 rs2 : RegNum) (s : State) : Host.Outcome State Fault Refusal :=
  .next (s.fpBinary 0x046#9 .double rd rs1 rs2 FpVal.sub)

/-- FSUBx (R461). -/
def execFsubx (rd rs1 rs2 : RegNum) (s : State) : Host.Outcome State Fault Refusal :=
  .next (s.fpBinary 0x047#9 .extended rd rs1 rs2 FpVal.sub)

/-- FMULs (R462). -/
def execFmuls (rd rs1 rs2 : RegNum) (s : State) : Host.Outcome State Fault Refusal :=
  .next (s.fpBinary 0x049#9 .single rd rs1 rs2 FpVal.mul)

/-- FMULd (R463). -/
def execFmuld (rd rs1 rs2 : RegNum) (s : State) : Host.Outcome State Fault Refusal :=
  .next (s.fpBinary 0x04a#9 .double rd rs1 rs2 FpVal.mul)

/-- FMULx (R464). -/
def execFmulx (rd rs1 rs2 : RegNum) (s : State) : Host.Outcome State Fault Refusal :=
  .next (s.fpBinary 0x04b#9 .extended rd rs1 rs2 FpVal.mul)

/-- FDIVs (R465). -/
def execFdivs (rd rs1 rs2 : RegNum) (s : State) : Host.Outcome State Fault Refusal :=
  .next (s.fpBinary 0x04d#9 .single rd rs1 rs2 FpVal.div)

/-- FDIVd (R466). -/
def execFdivd (rd rs1 rs2 : RegNum) (s : State) : Host.Outcome State Fault Refusal :=
  .next (s.fpBinary 0x04e#9 .double rd rs1 rs2 FpVal.div)

/-- FDIVx (R467). -/
def execFdivx (rd rs1 rs2 : RegNum) (s : State) : Host.Outcome State Fault Refusal :=
  .next (s.fpBinary 0x04f#9 .extended rd rs1 rs2 FpVal.div)

/-- FiTOs (R468). -/
def execFitos (rd rs2 : RegNum) (s : State) : Host.Outcome State Fault Refusal :=
  .next (s.fpUnary 0x0c4#9 .int .single rd rs2 some)

/-- FiTOd (R469). -/
def execFitod (rd rs2 : RegNum) (s : State) : Host.Outcome State Fault Refusal :=
  .next (s.fpUnary 0x0c8#9 .int .double rd rs2 some)

/-- FiTOx (R470). -/
def execFitox (rd rs2 : RegNum) (s : State) : Host.Outcome State Fault Refusal :=
  .next (s.fpUnary 0x0cc#9 .int .extended rd rs2 some)

/-- FsTOi (R471). -/
def execFstoi (rd rs2 : RegNum) (s : State) : Host.Outcome State Fault Refusal :=
  .next (s.fpUnary 0x0d1#9 .single .int rd rs2 some)

/-- FdTOi (R472). -/
def execFdtoi (rd rs2 : RegNum) (s : State) : Host.Outcome State Fault Refusal :=
  .next (s.fpUnary 0x0d2#9 .double .int rd rs2 some)

/-- FxTOi (R473). -/
def execFxtoi (rd rs2 : RegNum) (s : State) : Host.Outcome State Fault Refusal :=
  .next (s.fpUnary 0x0d3#9 .extended .int rd rs2 some)

/-- FsTOd (R474). -/
def execFstod (rd rs2 : RegNum) (s : State) : Host.Outcome State Fault Refusal :=
  .next (s.fpUnary 0x0c9#9 .single .double rd rs2 some)

/-- FsTOx (R475). -/
def execFstox (rd rs2 : RegNum) (s : State) : Host.Outcome State Fault Refusal :=
  .next (s.fpUnary 0x0cd#9 .single .extended rd rs2 some)

/-- FdTOs (R476). -/
def execFdtos (rd rs2 : RegNum) (s : State) : Host.Outcome State Fault Refusal :=
  .next (s.fpUnary 0x0c6#9 .double .single rd rs2 some)

/-- FdTOx (R477). -/
def execFdtox (rd rs2 : RegNum) (s : State) : Host.Outcome State Fault Refusal :=
  .next (s.fpUnary 0x0ce#9 .double .extended rd rs2 some)

/-- FxTOs (R478). -/
def execFxtos (rd rs2 : RegNum) (s : State) : Host.Outcome State Fault Refusal :=
  .next (s.fpUnary 0x0c7#9 .extended .single rd rs2 some)

/-- FxTOd (R479). -/
def execFxtod (rd rs2 : RegNum) (s : State) : Host.Outcome State Fault Refusal :=
  .next (s.fpUnary 0x0cb#9 .extended .double rd rs2 some)

/-- FCMPs (R483). -/
def execFcmps (rs1 rs2 : RegNum) (s : State) : Host.Outcome State Fault Refusal :=
  .next (s.fpCompare 0x051#9 .single rs1 rs2)

/-- FCMPd (R484). -/
def execFcmpd (rs1 rs2 : RegNum) (s : State) : Host.Outcome State Fault Refusal :=
  .next (s.fpCompare 0x052#9 .double rs1 rs2)

/-- FCMPx (R485). -/
def execFcmpx (rs1 rs2 : RegNum) (s : State) : Host.Outcome State Fault Refusal :=
  .next (s.fpCompare 0x053#9 .extended rs1 rs2)

/-- FCMPEs (R486). -/
def execFcmpes (rs1 rs2 : RegNum) (s : State) : Host.Outcome State Fault Refusal :=
  .next (s.fpCompare 0x055#9 .single rs1 rs2)

/-- FCMPEd (R487). -/
def execFcmped (rs1 rs2 : RegNum) (s : State) : Host.Outcome State Fault Refusal :=
  .next (s.fpCompare 0x056#9 .double rs1 rs2)

/-- FCMPEx (R488). -/
def execFcmpex (rs1 rs2 : RegNum) (s : State) : Host.Outcome State Fault Refusal :=
  .next (s.fpCompare 0x057#9 .extended rs1 rs2)

/-- A reserved opf under FPop1 (R482). -/
def execFpop1Reserved (_rd _rs1 : RegNum) (opf : BitVec 9) (_rs2 : RegNum) (s : State) : Host.Outcome State Fault Refusal :=
  .next (s.fpReserved opf)

/-- A reserved opf under FPop2 (R482). -/
def execFpop2Reserved (_rd _rs1 : RegNum) (opf : BitVec 9) (_rs2 : RegNum) (s : State) : Host.Outcome State Fault Refusal :=
  .next (s.fpReserved opf)

/-- CPop1 (R491). -/
def execCpop1 (_rd _rs1 : RegNum) (_opc : BitVec 9) (_rs2 : RegNum) (s : State) : Host.Outcome State Fault Refusal :=
  .next (s.cpop)

/-- CPop2 (R492). -/
def execCpop2 (_rd _rs1 : RegNum) (_opc : BitVec 9) (_rs2 : RegNum) (s : State) : Host.Outcome State Fault Refusal :=
  .next (s.cpop)

end Sys2Proof.Machine
end

