-- ==== Sys2Proof/Machine/Misc.lean ====
section
/-! DEFINITION. UNIMP and IFLUSH (spec 46_misc.md), and the reserved values of op2 and op3, which raise
illegal_instruction (30_encoding.md R156, R165, R166; 46_misc.md R501): one meaning per row of the opcode table. -/

namespace Sys2Proof.Machine

/-- An encoding the integer unit does not implement (60_exceptions.md R552). -/
def State.illegal (s : State) : State := s.raise .illegalInstruction

/-- UNIMP (R500). -/
def execUnimp (_const22 : BitVec 22) (s : State) : Host.Outcome State Fault Refusal :=
  .next (s.illegal)

/-- IFLUSH (R503): the address its fields would form is not used. -/
def execIflush (_rs1 : RegNum) (_src : Operand2) (s : State) : Host.Outcome State Fault Refusal :=
  .next (s.attempt [(s.pins.iflushTraps, .illegalInstruction)] s.advance)

/-- The reserved value 001 of op2 under op = 00 (R501). -/
def execReservedOp00_001 (s : State) : Host.Outcome State Fault Refusal := .next s.illegal

/-- The reserved value 011 of op2 under op = 00 (R501). -/
def execReservedOp00_011 (s : State) : Host.Outcome State Fault Refusal := .next s.illegal

/-- The reserved value 101 of op2 under op = 00 (R501). -/
def execReservedOp00_101 (s : State) : Host.Outcome State Fault Refusal := .next s.illegal

/-- The reserved value 001001 of op3 under op = 10 (R165). -/
def execReservedOp10_001001 (s : State) : Host.Outcome State Fault Refusal := .next s.illegal

/-- The reserved value 001010 of op3 under op = 10 (R165). -/
def execReservedOp10_001010 (s : State) : Host.Outcome State Fault Refusal := .next s.illegal

/-- The reserved value 001011 of op3 under op = 10 (R165). -/
def execReservedOp10_001011 (s : State) : Host.Outcome State Fault Refusal := .next s.illegal

/-- The reserved value 001101 of op3 under op = 10 (R165). -/
def execReservedOp10_001101 (s : State) : Host.Outcome State Fault Refusal := .next s.illegal

/-- The reserved value 001110 of op3 under op = 10 (R165). -/
def execReservedOp10_001110 (s : State) : Host.Outcome State Fault Refusal := .next s.illegal

/-- The reserved value 001111 of op3 under op = 10 (R165). -/
def execReservedOp10_001111 (s : State) : Host.Outcome State Fault Refusal := .next s.illegal

/-- The reserved value 011001 of op3 under op = 10 (R165). -/
def execReservedOp10_011001 (s : State) : Host.Outcome State Fault Refusal := .next s.illegal

/-- The reserved value 011010 of op3 under op = 10 (R165). -/
def execReservedOp10_011010 (s : State) : Host.Outcome State Fault Refusal := .next s.illegal

/-- The reserved value 011011 of op3 under op = 10 (R165). -/
def execReservedOp10_011011 (s : State) : Host.Outcome State Fault Refusal := .next s.illegal

/-- The reserved value 011101 of op3 under op = 10 (R165). -/
def execReservedOp10_011101 (s : State) : Host.Outcome State Fault Refusal := .next s.illegal

/-- The reserved value 011110 of op3 under op = 10 (R165). -/
def execReservedOp10_011110 (s : State) : Host.Outcome State Fault Refusal := .next s.illegal

/-- The reserved value 011111 of op3 under op = 10 (R165). -/
def execReservedOp10_011111 (s : State) : Host.Outcome State Fault Refusal := .next s.illegal

/-- The reserved value 101100 of op3 under op = 10 (R165). -/
def execReservedOp10_101100 (s : State) : Host.Outcome State Fault Refusal := .next s.illegal

/-- The reserved value 101101 of op3 under op = 10 (R165). -/
def execReservedOp10_101101 (s : State) : Host.Outcome State Fault Refusal := .next s.illegal

/-- The reserved value 101110 of op3 under op = 10 (R165). -/
def execReservedOp10_101110 (s : State) : Host.Outcome State Fault Refusal := .next s.illegal

/-- The reserved value 101111 of op3 under op = 10 (R165). -/
def execReservedOp10_101111 (s : State) : Host.Outcome State Fault Refusal := .next s.illegal

/-- The reserved value 111110 of op3 under op = 10 (R165). -/
def execReservedOp10_111110 (s : State) : Host.Outcome State Fault Refusal := .next s.illegal

/-- The reserved value 111111 of op3 under op = 10 (R165). -/
def execReservedOp10_111111 (s : State) : Host.Outcome State Fault Refusal := .next s.illegal

/-- The reserved value 001000 of op3 under op = 11 (R166). -/
def execReservedOp11_001000 (s : State) : Host.Outcome State Fault Refusal := .next s.illegal

/-- The reserved value 001011 of op3 under op = 11 (R166). -/
def execReservedOp11_001011 (s : State) : Host.Outcome State Fault Refusal := .next s.illegal

/-- The reserved value 001100 of op3 under op = 11 (R166). -/
def execReservedOp11_001100 (s : State) : Host.Outcome State Fault Refusal := .next s.illegal

/-- The reserved value 001110 of op3 under op = 11 (R166). -/
def execReservedOp11_001110 (s : State) : Host.Outcome State Fault Refusal := .next s.illegal

/-- The reserved value 011000 of op3 under op = 11 (R166). -/
def execReservedOp11_011000 (s : State) : Host.Outcome State Fault Refusal := .next s.illegal

/-- The reserved value 011011 of op3 under op = 11 (R166). -/
def execReservedOp11_011011 (s : State) : Host.Outcome State Fault Refusal := .next s.illegal

/-- The reserved value 011100 of op3 under op = 11 (R166). -/
def execReservedOp11_011100 (s : State) : Host.Outcome State Fault Refusal := .next s.illegal

/-- The reserved value 011110 of op3 under op = 11 (R166). -/
def execReservedOp11_011110 (s : State) : Host.Outcome State Fault Refusal := .next s.illegal

/-- The reserved value 100010 of op3 under op = 11 (R166). -/
def execReservedOp11_100010 (s : State) : Host.Outcome State Fault Refusal := .next s.illegal

/-- The reserved value 101000 of op3 under op = 11 (R166). -/
def execReservedOp11_101000 (s : State) : Host.Outcome State Fault Refusal := .next s.illegal

/-- The reserved value 101001 of op3 under op = 11 (R166). -/
def execReservedOp11_101001 (s : State) : Host.Outcome State Fault Refusal := .next s.illegal

/-- The reserved value 101010 of op3 under op = 11 (R166). -/
def execReservedOp11_101010 (s : State) : Host.Outcome State Fault Refusal := .next s.illegal

/-- The reserved value 101011 of op3 under op = 11 (R166). -/
def execReservedOp11_101011 (s : State) : Host.Outcome State Fault Refusal := .next s.illegal

/-- The reserved value 101100 of op3 under op = 11 (R166). -/
def execReservedOp11_101100 (s : State) : Host.Outcome State Fault Refusal := .next s.illegal

/-- The reserved value 101101 of op3 under op = 11 (R166). -/
def execReservedOp11_101101 (s : State) : Host.Outcome State Fault Refusal := .next s.illegal

/-- The reserved value 101110 of op3 under op = 11 (R166). -/
def execReservedOp11_101110 (s : State) : Host.Outcome State Fault Refusal := .next s.illegal

/-- The reserved value 101111 of op3 under op = 11 (R166). -/
def execReservedOp11_101111 (s : State) : Host.Outcome State Fault Refusal := .next s.illegal

/-- The reserved value 110010 of op3 under op = 11 (R166). -/
def execReservedOp11_110010 (s : State) : Host.Outcome State Fault Refusal := .next s.illegal

/-- The reserved value 111000 of op3 under op = 11 (R166). -/
def execReservedOp11_111000 (s : State) : Host.Outcome State Fault Refusal := .next s.illegal

/-- The reserved value 111001 of op3 under op = 11 (R166). -/
def execReservedOp11_111001 (s : State) : Host.Outcome State Fault Refusal := .next s.illegal

/-- The reserved value 111010 of op3 under op = 11 (R166). -/
def execReservedOp11_111010 (s : State) : Host.Outcome State Fault Refusal := .next s.illegal

/-- The reserved value 111011 of op3 under op = 11 (R166). -/
def execReservedOp11_111011 (s : State) : Host.Outcome State Fault Refusal := .next s.illegal

/-- The reserved value 111100 of op3 under op = 11 (R166). -/
def execReservedOp11_111100 (s : State) : Host.Outcome State Fault Refusal := .next s.illegal

/-- The reserved value 111101 of op3 under op = 11 (R166). -/
def execReservedOp11_111101 (s : State) : Host.Outcome State Fault Refusal := .next s.illegal

/-- The reserved value 111110 of op3 under op = 11 (R166). -/
def execReservedOp11_111110 (s : State) : Host.Outcome State Fault Refusal := .next s.illegal

/-- The reserved value 111111 of op3 under op = 11 (R166). -/
def execReservedOp11_111111 (s : State) : Host.Outcome State Fault Refusal := .next s.illegal

end Sys2Proof.Machine
end

