-- ==== Sys2Proof/Machine/Dispatch.lean ====
section
/-! DEFINITION. One arm per instruction. -/

namespace Sys2Proof.Machine

def exec (i : Instr) (s : State) : Host.Outcome State Fault Refusal :=
  match i with
  -- integer load and store (40_load_store.md)
  | .ld rd rs1 src => Sys2Proof.Machine.execLd rd rs1 src s
  | .ldub rd rs1 src => Sys2Proof.Machine.execLdub rd rs1 src s
  | .lduh rd rs1 src => Sys2Proof.Machine.execLduh rd rs1 src s
  | .ldd rd rs1 src => Sys2Proof.Machine.execLdd rd rs1 src s
  | .st rd rs1 src => Sys2Proof.Machine.execSt rd rs1 src s
  | .stb rd rs1 src => Sys2Proof.Machine.execStb rd rs1 src s
  | .sth rd rs1 src => Sys2Proof.Machine.execSth rd rs1 src s
  | .std rd rs1 src => Sys2Proof.Machine.execStd rd rs1 src s
  | .ldsb rd rs1 src => Sys2Proof.Machine.execLdsb rd rs1 src s
  | .ldsh rd rs1 src => Sys2Proof.Machine.execLdsh rd rs1 src s
  | .ldstub rd rs1 src => Sys2Proof.Machine.execLdstub rd rs1 src s
  | .swap rd rs1 src => Sys2Proof.Machine.execSwap rd rs1 src s
  | .lda rd rs1 src => Sys2Proof.Machine.execLda rd rs1 src s
  | .lduba rd rs1 src => Sys2Proof.Machine.execLduba rd rs1 src s
  | .lduha rd rs1 src => Sys2Proof.Machine.execLduha rd rs1 src s
  | .ldda rd rs1 src => Sys2Proof.Machine.execLdda rd rs1 src s
  | .sta rd rs1 src => Sys2Proof.Machine.execSta rd rs1 src s
  | .stba rd rs1 src => Sys2Proof.Machine.execStba rd rs1 src s
  | .stha rd rs1 src => Sys2Proof.Machine.execStha rd rs1 src s
  | .stda rd rs1 src => Sys2Proof.Machine.execStda rd rs1 src s
  | .ldsba rd rs1 src => Sys2Proof.Machine.execLdsba rd rs1 src s
  | .ldsha rd rs1 src => Sys2Proof.Machine.execLdsha rd rs1 src s
  | .ldstuba rd rs1 src => Sys2Proof.Machine.execLdstuba rd rs1 src s
  | .swapa rd rs1 src => Sys2Proof.Machine.execSwapa rd rs1 src s
  -- floating-point and coprocessor load and store (41_fp_cp_load_store.md)
  | .ldf rd rs1 src => Sys2Proof.Machine.execLdf rd rs1 src s
  | .ldfsr rs1 src => Sys2Proof.Machine.execLdfsr rs1 src s
  | .lddf rd rs1 src => Sys2Proof.Machine.execLddf rd rs1 src s
  | .stf rd rs1 src => Sys2Proof.Machine.execStf rd rs1 src s
  | .stfsr rs1 src => Sys2Proof.Machine.execStfsr rs1 src s
  | .stdfq rs1 src => Sys2Proof.Machine.execStdfq rs1 src s
  | .stdf rd rs1 src => Sys2Proof.Machine.execStdf rd rs1 src s
  | .ldc rd rs1 src => Sys2Proof.Machine.execLdc rd rs1 src s
  | .ldcsr rs1 src => Sys2Proof.Machine.execLdcsr rs1 src s
  | .lddc rd rs1 src => Sys2Proof.Machine.execLddc rd rs1 src s
  | .stc rd rs1 src => Sys2Proof.Machine.execStc rd rs1 src s
  | .stcsr rs1 src => Sys2Proof.Machine.execStcsr rs1 src s
  | .stdcq rs1 src => Sys2Proof.Machine.execStdcq rs1 src s
  | .stdc rd rs1 src => Sys2Proof.Machine.execStdc rd rs1 src s
  -- arithmetic, logical, shift (42_arithmetic_logical_shift.md)
  | .add rd rs1 src => Sys2Proof.Machine.execAdd rd rs1 src s
  | .and rd rs1 src => Sys2Proof.Machine.execAnd rd rs1 src s
  | .or rd rs1 src => Sys2Proof.Machine.execOr rd rs1 src s
  | .xor rd rs1 src => Sys2Proof.Machine.execXor rd rs1 src s
  | .sub rd rs1 src => Sys2Proof.Machine.execSub rd rs1 src s
  | .andn rd rs1 src => Sys2Proof.Machine.execAndn rd rs1 src s
  | .orn rd rs1 src => Sys2Proof.Machine.execOrn rd rs1 src s
  | .xnor rd rs1 src => Sys2Proof.Machine.execXnor rd rs1 src s
  | .addx rd rs1 src => Sys2Proof.Machine.execAddx rd rs1 src s
  | .subx rd rs1 src => Sys2Proof.Machine.execSubx rd rs1 src s
  | .addcc rd rs1 src => Sys2Proof.Machine.execAddcc rd rs1 src s
  | .andcc rd rs1 src => Sys2Proof.Machine.execAndcc rd rs1 src s
  | .orcc rd rs1 src => Sys2Proof.Machine.execOrcc rd rs1 src s
  | .xorcc rd rs1 src => Sys2Proof.Machine.execXorcc rd rs1 src s
  | .subcc rd rs1 src => Sys2Proof.Machine.execSubcc rd rs1 src s
  | .andncc rd rs1 src => Sys2Proof.Machine.execAndncc rd rs1 src s
  | .orncc rd rs1 src => Sys2Proof.Machine.execOrncc rd rs1 src s
  | .xnorcc rd rs1 src => Sys2Proof.Machine.execXnorcc rd rs1 src s
  | .addxcc rd rs1 src => Sys2Proof.Machine.execAddxcc rd rs1 src s
  | .subxcc rd rs1 src => Sys2Proof.Machine.execSubxcc rd rs1 src s
  | .taddcc rd rs1 src => Sys2Proof.Machine.execTaddcc rd rs1 src s
  | .tsubcc rd rs1 src => Sys2Proof.Machine.execTsubcc rd rs1 src s
  | .taddcctv rd rs1 src => Sys2Proof.Machine.execTaddcctv rd rs1 src s
  | .tsubcctv rd rs1 src => Sys2Proof.Machine.execTsubcctv rd rs1 src s
  | .mulscc rd rs1 src => Sys2Proof.Machine.execMulscc rd rs1 src s
  | .sll rd rs1 cnt => Sys2Proof.Machine.execSll rd rs1 cnt s
  | .srl rd rs1 cnt => Sys2Proof.Machine.execSrl rd rs1 cnt s
  | .sra rd rs1 cnt => Sys2Proof.Machine.execSra rd rs1 cnt s
  | .sethi rd imm22 => Sys2Proof.Machine.execSethi rd imm22 s
  -- control transfer (43_control_transfer.md)
  | .bn a disp22 => Sys2Proof.Machine.execBn a disp22 s
  | .be a disp22 => Sys2Proof.Machine.execBe a disp22 s
  | .ble a disp22 => Sys2Proof.Machine.execBle a disp22 s
  | .bl a disp22 => Sys2Proof.Machine.execBl a disp22 s
  | .bleu a disp22 => Sys2Proof.Machine.execBleu a disp22 s
  | .bcs a disp22 => Sys2Proof.Machine.execBcs a disp22 s
  | .bneg a disp22 => Sys2Proof.Machine.execBneg a disp22 s
  | .bvs a disp22 => Sys2Proof.Machine.execBvs a disp22 s
  | .ba a disp22 => Sys2Proof.Machine.execBa a disp22 s
  | .bne a disp22 => Sys2Proof.Machine.execBne a disp22 s
  | .bg a disp22 => Sys2Proof.Machine.execBg a disp22 s
  | .bge a disp22 => Sys2Proof.Machine.execBge a disp22 s
  | .bgu a disp22 => Sys2Proof.Machine.execBgu a disp22 s
  | .bcc a disp22 => Sys2Proof.Machine.execBcc a disp22 s
  | .bpos a disp22 => Sys2Proof.Machine.execBpos a disp22 s
  | .bvc a disp22 => Sys2Proof.Machine.execBvc a disp22 s
  | .fbn a disp22 => Sys2Proof.Machine.execFbn a disp22 s
  | .fbne a disp22 => Sys2Proof.Machine.execFbne a disp22 s
  | .fblg a disp22 => Sys2Proof.Machine.execFblg a disp22 s
  | .fbul a disp22 => Sys2Proof.Machine.execFbul a disp22 s
  | .fbl a disp22 => Sys2Proof.Machine.execFbl a disp22 s
  | .fbug a disp22 => Sys2Proof.Machine.execFbug a disp22 s
  | .fbg a disp22 => Sys2Proof.Machine.execFbg a disp22 s
  | .fbu a disp22 => Sys2Proof.Machine.execFbu a disp22 s
  | .fba a disp22 => Sys2Proof.Machine.execFba a disp22 s
  | .fbe a disp22 => Sys2Proof.Machine.execFbe a disp22 s
  | .fbue a disp22 => Sys2Proof.Machine.execFbue a disp22 s
  | .fbge a disp22 => Sys2Proof.Machine.execFbge a disp22 s
  | .fbuge a disp22 => Sys2Proof.Machine.execFbuge a disp22 s
  | .fble a disp22 => Sys2Proof.Machine.execFble a disp22 s
  | .fbule a disp22 => Sys2Proof.Machine.execFbule a disp22 s
  | .fbo a disp22 => Sys2Proof.Machine.execFbo a disp22 s
  | .cbn a disp22 => Sys2Proof.Machine.execCbn a disp22 s
  | .cb123 a disp22 => Sys2Proof.Machine.execCb123 a disp22 s
  | .cb12 a disp22 => Sys2Proof.Machine.execCb12 a disp22 s
  | .cb13 a disp22 => Sys2Proof.Machine.execCb13 a disp22 s
  | .cb1 a disp22 => Sys2Proof.Machine.execCb1 a disp22 s
  | .cb23 a disp22 => Sys2Proof.Machine.execCb23 a disp22 s
  | .cb2 a disp22 => Sys2Proof.Machine.execCb2 a disp22 s
  | .cb3 a disp22 => Sys2Proof.Machine.execCb3 a disp22 s
  | .cba a disp22 => Sys2Proof.Machine.execCba a disp22 s
  | .cb0 a disp22 => Sys2Proof.Machine.execCb0 a disp22 s
  | .cb03 a disp22 => Sys2Proof.Machine.execCb03 a disp22 s
  | .cb02 a disp22 => Sys2Proof.Machine.execCb02 a disp22 s
  | .cb023 a disp22 => Sys2Proof.Machine.execCb023 a disp22 s
  | .cb01 a disp22 => Sys2Proof.Machine.execCb01 a disp22 s
  | .cb013 a disp22 => Sys2Proof.Machine.execCb013 a disp22 s
  | .cb012 a disp22 => Sys2Proof.Machine.execCb012 a disp22 s
  | .call disp30 => Sys2Proof.Machine.execCall disp30 s
  | .jmpl rd rs1 src => Sys2Proof.Machine.execJmpl rd rs1 src s
  | .rett rs1 src => Sys2Proof.Machine.execRett rs1 src s
  | .tn rs1 src => Sys2Proof.Machine.execTn rs1 src s
  | .te rs1 src => Sys2Proof.Machine.execTe rs1 src s
  | .tle rs1 src => Sys2Proof.Machine.execTle rs1 src s
  | .tl rs1 src => Sys2Proof.Machine.execTl rs1 src s
  | .tleu rs1 src => Sys2Proof.Machine.execTleu rs1 src s
  | .tcs rs1 src => Sys2Proof.Machine.execTcs rs1 src s
  | .tneg rs1 src => Sys2Proof.Machine.execTneg rs1 src s
  | .tvs rs1 src => Sys2Proof.Machine.execTvs rs1 src s
  | .ta rs1 src => Sys2Proof.Machine.execTa rs1 src s
  | .tne rs1 src => Sys2Proof.Machine.execTne rs1 src s
  | .tg rs1 src => Sys2Proof.Machine.execTg rs1 src s
  | .tge rs1 src => Sys2Proof.Machine.execTge rs1 src s
  | .tgu rs1 src => Sys2Proof.Machine.execTgu rs1 src s
  | .tcc rs1 src => Sys2Proof.Machine.execTcc rs1 src s
  | .tpos rs1 src => Sys2Proof.Machine.execTpos rs1 src s
  | .tvc rs1 src => Sys2Proof.Machine.execTvc rs1 src s
  | .save rd rs1 src => Sys2Proof.Machine.execSave rd rs1 src s
  | .restore rd rs1 src => Sys2Proof.Machine.execRestore rd rs1 src s
  -- control registers (44_control_registers.md)
  | .rdy rd => Sys2Proof.Machine.execRdy rd s
  | .rdpsr rd => Sys2Proof.Machine.execRdpsr rd s
  | .rdwim rd => Sys2Proof.Machine.execRdwim rd s
  | .rdtbr rd => Sys2Proof.Machine.execRdtbr rd s
  | .wry rs1 src => Sys2Proof.Machine.execWry rs1 src s
  | .wrpsr rs1 src => Sys2Proof.Machine.execWrpsr rs1 src s
  | .wrwim rs1 src => Sys2Proof.Machine.execWrwim rs1 src s
  | .wrtbr rs1 src => Sys2Proof.Machine.execWrtbr rs1 src s
  -- floating-point-operate and coprocessor-operate (45_fpop_cpop.md)
  | .fmovs rd rs2 => Sys2Proof.Machine.execFmovs rd rs2 s
  | .fnegs rd rs2 => Sys2Proof.Machine.execFnegs rd rs2 s
  | .fabss rd rs2 => Sys2Proof.Machine.execFabss rd rs2 s
  | .fsqrts rd rs2 => Sys2Proof.Machine.execFsqrts rd rs2 s
  | .fsqrtd rd rs2 => Sys2Proof.Machine.execFsqrtd rd rs2 s
  | .fsqrtx rd rs2 => Sys2Proof.Machine.execFsqrtx rd rs2 s
  | .fadds rd rs1 rs2 => Sys2Proof.Machine.execFadds rd rs1 rs2 s
  | .faddd rd rs1 rs2 => Sys2Proof.Machine.execFaddd rd rs1 rs2 s
  | .faddx rd rs1 rs2 => Sys2Proof.Machine.execFaddx rd rs1 rs2 s
  | .fsubs rd rs1 rs2 => Sys2Proof.Machine.execFsubs rd rs1 rs2 s
  | .fsubd rd rs1 rs2 => Sys2Proof.Machine.execFsubd rd rs1 rs2 s
  | .fsubx rd rs1 rs2 => Sys2Proof.Machine.execFsubx rd rs1 rs2 s
  | .fmuls rd rs1 rs2 => Sys2Proof.Machine.execFmuls rd rs1 rs2 s
  | .fmuld rd rs1 rs2 => Sys2Proof.Machine.execFmuld rd rs1 rs2 s
  | .fmulx rd rs1 rs2 => Sys2Proof.Machine.execFmulx rd rs1 rs2 s
  | .fdivs rd rs1 rs2 => Sys2Proof.Machine.execFdivs rd rs1 rs2 s
  | .fdivd rd rs1 rs2 => Sys2Proof.Machine.execFdivd rd rs1 rs2 s
  | .fdivx rd rs1 rs2 => Sys2Proof.Machine.execFdivx rd rs1 rs2 s
  | .fitos rd rs2 => Sys2Proof.Machine.execFitos rd rs2 s
  | .fdtos rd rs2 => Sys2Proof.Machine.execFdtos rd rs2 s
  | .fxtos rd rs2 => Sys2Proof.Machine.execFxtos rd rs2 s
  | .fitod rd rs2 => Sys2Proof.Machine.execFitod rd rs2 s
  | .fstod rd rs2 => Sys2Proof.Machine.execFstod rd rs2 s
  | .fxtod rd rs2 => Sys2Proof.Machine.execFxtod rd rs2 s
  | .fitox rd rs2 => Sys2Proof.Machine.execFitox rd rs2 s
  | .fstox rd rs2 => Sys2Proof.Machine.execFstox rd rs2 s
  | .fdtox rd rs2 => Sys2Proof.Machine.execFdtox rd rs2 s
  | .fstoi rd rs2 => Sys2Proof.Machine.execFstoi rd rs2 s
  | .fdtoi rd rs2 => Sys2Proof.Machine.execFdtoi rd rs2 s
  | .fxtoi rd rs2 => Sys2Proof.Machine.execFxtoi rd rs2 s
  | .fcmps rs1 rs2 => Sys2Proof.Machine.execFcmps rs1 rs2 s
  | .fcmpd rs1 rs2 => Sys2Proof.Machine.execFcmpd rs1 rs2 s
  | .fcmpx rs1 rs2 => Sys2Proof.Machine.execFcmpx rs1 rs2 s
  | .fcmpes rs1 rs2 => Sys2Proof.Machine.execFcmpes rs1 rs2 s
  | .fcmped rs1 rs2 => Sys2Proof.Machine.execFcmped rs1 rs2 s
  | .fcmpex rs1 rs2 => Sys2Proof.Machine.execFcmpex rs1 rs2 s
  | .fpop1Reserved rd rs1 opf rs2 => Sys2Proof.Machine.execFpop1Reserved rd rs1 opf rs2 s
  | .fpop2Reserved rd rs1 opf rs2 => Sys2Proof.Machine.execFpop2Reserved rd rs1 opf rs2 s
  | .cpop1 rd rs1 opc rs2 => Sys2Proof.Machine.execCpop1 rd rs1 opc rs2 s
  | .cpop2 rd rs1 opc rs2 => Sys2Proof.Machine.execCpop2 rd rs1 opc rs2 s
  -- miscellaneous (46_misc.md)
  | .unimp const22 => Sys2Proof.Machine.execUnimp const22 s
  | .iflush rs1 src => Sys2Proof.Machine.execIflush rs1 src s
  -- reserved encodings (30_encoding.md R154, R165, R166; 46_misc.md R501)
  | .reservedOp00_001 => Sys2Proof.Machine.execReservedOp00_001 s
  | .reservedOp00_011 => Sys2Proof.Machine.execReservedOp00_011 s
  | .reservedOp00_101 => Sys2Proof.Machine.execReservedOp00_101 s
  | .reservedOp10_001001 => Sys2Proof.Machine.execReservedOp10_001001 s
  | .reservedOp10_001010 => Sys2Proof.Machine.execReservedOp10_001010 s
  | .reservedOp10_001011 => Sys2Proof.Machine.execReservedOp10_001011 s
  | .reservedOp10_001101 => Sys2Proof.Machine.execReservedOp10_001101 s
  | .reservedOp10_001110 => Sys2Proof.Machine.execReservedOp10_001110 s
  | .reservedOp10_001111 => Sys2Proof.Machine.execReservedOp10_001111 s
  | .reservedOp10_011001 => Sys2Proof.Machine.execReservedOp10_011001 s
  | .reservedOp10_011010 => Sys2Proof.Machine.execReservedOp10_011010 s
  | .reservedOp10_011011 => Sys2Proof.Machine.execReservedOp10_011011 s
  | .reservedOp10_011101 => Sys2Proof.Machine.execReservedOp10_011101 s
  | .reservedOp10_011110 => Sys2Proof.Machine.execReservedOp10_011110 s
  | .reservedOp10_011111 => Sys2Proof.Machine.execReservedOp10_011111 s
  | .reservedOp10_101100 => Sys2Proof.Machine.execReservedOp10_101100 s
  | .reservedOp10_101101 => Sys2Proof.Machine.execReservedOp10_101101 s
  | .reservedOp10_101110 => Sys2Proof.Machine.execReservedOp10_101110 s
  | .reservedOp10_101111 => Sys2Proof.Machine.execReservedOp10_101111 s
  | .reservedOp10_111110 => Sys2Proof.Machine.execReservedOp10_111110 s
  | .reservedOp10_111111 => Sys2Proof.Machine.execReservedOp10_111111 s
  | .reservedOp11_001000 => Sys2Proof.Machine.execReservedOp11_001000 s
  | .reservedOp11_001011 => Sys2Proof.Machine.execReservedOp11_001011 s
  | .reservedOp11_001100 => Sys2Proof.Machine.execReservedOp11_001100 s
  | .reservedOp11_001110 => Sys2Proof.Machine.execReservedOp11_001110 s
  | .reservedOp11_011000 => Sys2Proof.Machine.execReservedOp11_011000 s
  | .reservedOp11_011011 => Sys2Proof.Machine.execReservedOp11_011011 s
  | .reservedOp11_011100 => Sys2Proof.Machine.execReservedOp11_011100 s
  | .reservedOp11_011110 => Sys2Proof.Machine.execReservedOp11_011110 s
  | .reservedOp11_100010 => Sys2Proof.Machine.execReservedOp11_100010 s
  | .reservedOp11_101000 => Sys2Proof.Machine.execReservedOp11_101000 s
  | .reservedOp11_101001 => Sys2Proof.Machine.execReservedOp11_101001 s
  | .reservedOp11_101010 => Sys2Proof.Machine.execReservedOp11_101010 s
  | .reservedOp11_101011 => Sys2Proof.Machine.execReservedOp11_101011 s
  | .reservedOp11_101100 => Sys2Proof.Machine.execReservedOp11_101100 s
  | .reservedOp11_101101 => Sys2Proof.Machine.execReservedOp11_101101 s
  | .reservedOp11_101110 => Sys2Proof.Machine.execReservedOp11_101110 s
  | .reservedOp11_101111 => Sys2Proof.Machine.execReservedOp11_101111 s
  | .reservedOp11_110010 => Sys2Proof.Machine.execReservedOp11_110010 s
  | .reservedOp11_111000 => Sys2Proof.Machine.execReservedOp11_111000 s
  | .reservedOp11_111001 => Sys2Proof.Machine.execReservedOp11_111001 s
  | .reservedOp11_111010 => Sys2Proof.Machine.execReservedOp11_111010 s
  | .reservedOp11_111011 => Sys2Proof.Machine.execReservedOp11_111011 s
  | .reservedOp11_111100 => Sys2Proof.Machine.execReservedOp11_111100 s
  | .reservedOp11_111101 => Sys2Proof.Machine.execReservedOp11_111101 s
  | .reservedOp11_111110 => Sys2Proof.Machine.execReservedOp11_111110 s
  | .reservedOp11_111111 => Sys2Proof.Machine.execReservedOp11_111111 s

end Sys2Proof.Machine
end

