-- ==== Sys2Proof/Machine/Step.lean ====
section
/-! DEFINITION. One step of the machine (spec 00_scope.md R21), and the placing of an instruction where the next step
fetches it. -/

namespace Sys2Proof.Machine

/-- The instruction at the end of a boundary: an FBfcc that finds a parity error traps (60_exceptions.md R582), any other
instruction executes. -/
def State.executeWord (s : State) (inp : BoardInput) (w : Word) : Host.Outcome State Fault Refusal :=
  if s.fiparError inp w then .next s.fiparTrap else exec (decode w) s

/-- One step: one instruction, one annulled slot, one trap, or one boundary at which the machine is held. -/
def step (s : State) : Host.Outcome State Fault Refusal :=
  match s.boundary with
  | .halted => .fault .errorModeHalted
  | .pinChanged => .refused .staticPinChanged
  | .over t => .next t
  | .run w t =>
    match t.executeWord s.input w with
    | .next t' => .next (t.finish s.input (decode w) t')
    | .fault f => .fault f
    | .refused r => .refused r

/-- `s` with the word of bits `w` at PC in the instruction space of its mode, and ready to execute it: execute mode, no
annulled slot, no late write of a control register, no input of the board, no interrupt request, no rule that refuses that fetch, nothing
prefetched (log 3).
In the state after reset only the four bytes change. -/
def State.withFetchWord (s : State) (_nbits w : Nat) : State :=
  { s with
    mem := s.mem.writeBytes s.instrAsi s.pc (bytesOfWord (BitVec.ofNat 32 w))
    mode := .execute
    late := []
    annul := false
    board := []
    irl := 0#4
    mexc := s.mexc.filter fun r => !r.covers s.instrAsi s.pc .word .fetch false
    recent := [] }

end Sys2Proof.Machine
end

