-- ==== Sys2Proof/Safety.lean ====
section
/-! DEFINITION. The terms in which claims about the machine are stated: the invariant of every step, what an instruction
may change (its frame), and where a store goes. -/

namespace Sys2Proof.Machine

/-! ## The invariant -/

/-- A word address (spec 10_state.md R50): its two low bits are 0. -/
abbrev wordAligned (a : Word) : Prop := a.extractLsb' 0 2 = 0#2

/-- The invariant: both program counters are word addresses (R50), memory is in its canonical form, and while the interrupt
is acknowledged traps are disabled and the mode is supervisor (60_exceptions.md R520, R567; how long INTACK stands is DESIGN
CHOICE, log 39). -/
structure State.Inv (s : State) : Prop where
  pcAligned : wordAligned s.pc
  npcAligned : wordAligned s.npc
  memCanonical : s.mem.wf = true
  interruptTaken : s.intack = true → s.psr.et = false ∧ s.psr.s = true

/-- The control registers `c` and `d` agree in what user mode may not change (10_state.md R67; 44_control_registers.md R420):
PIL, EF, EC, S, PS, ET, the WIM and the TBR. -/
def SamePrivileges (c d : Controls) : Prop :=
  d.psr = { d.psr with pil := c.psr.pil, ef := c.psr.ef, ec := c.psr.ec, s := c.psr.s, ps := c.psr.ps, et := c.psr.et } ∧
    d.wim = c.wim ∧ d.tbr = c.tbr

/-! ## Frames -/

/-- From `s` to `t`: the register that `rd` names in window `w` becomes `v` (nothing, if rd = 0), and every other register
of every window keeps its value. -/
def WritesValue (s t : State) (w : Window) (rd : RegNum) (v : Word) : Prop :=
  (rd ≠ 0#5 → t.regIn w rd = v) ∧ ∀ w' n, phys w' n ≠ phys w rd ∨ n = 0#5 → t.regIn w' n = s.regIn w' n

/-- From `s` to `t`: the physical registers `written` count as written since power-up, and of the others those that did
(10_state.md R89, 60_exceptions.md R585; log 37). -/
def CountsWritten (s t : State) (written : List PhysReg) : Prop :=
  ∀ p, t.physWritten p = (decide (p ∈ written) || s.physWritten p)

/-- As `WritesValue`, and that register, and no other, counts as written from then on. -/
def WritesReg (s t : State) (w : Window) (rd : RegNum) (v : Word) : Prop :=
  WritesValue s t w rd v ∧ CountsWritten s t [phys w rd]

/-- From `s` to `t`: the registers of the pair of `rd` in window `w` become `v0` (even) and `v1` (odd) and count as written,
every other register keeps its value and counts as it did. -/
def WritesPair (s t : State) (w : Window) (rd : RegNum) (v0 v1 : Word) : Prop :=
  (pairEven rd ≠ 0#5 → t.regIn w (pairEven rd) = v0) ∧ t.regIn w (pairOdd rd) = v1 ∧
    (∀ w' n, (phys w' n ≠ phys w (pairEven rd) ∧ phys w' n ≠ phys w (pairOdd rd)) ∨ n = 0#5 →
      t.regIn w' n = s.regIn w' n) ∧
    CountsWritten s t [phys w (pairEven rd), phys w (pairOdd rd)]

/-- Every r register keeps its value. -/
def RegsKept (s t : State) : Prop := t.globals = s.globals ∧ t.windows = s.windows

/-- From `s` to `t` nothing changes but r registers and the program counters, which go on to the next instruction. -/
def OnlyRegs (s t : State) : Prop :=
  t = { s with globals := t.globals, windows := t.windows, pc := s.npc, npc := s.npc + 4#32, prev := .other }

/-- As `OnlyRegs`, with icc changed to `f`, in a write of the PSR that is still late too (44_control_registers.md R435). -/
def OnlyRegsIcc (s t : State) (f : Icc) : Prop :=
  t = { s with
        globals := t.globals, windows := t.windows, psr := { s.psr with icc := f },
        late := s.late.map (LateWrite.afterPsr fun p => { p with icc := f }), pc := s.npc, npc := s.npc + 4#32,
        prev := .other }

/-- From `s` to `t` nothing changes but r registers, memory (with the record of the newest stores, `StoresBytes`) and the
program counters, which go on to the next instruction. -/
def OnlyRegsMem (s t : State) : Prop :=
  t = { s with
        globals := t.globals, windows := t.windows, mem := t.mem, recent := t.recent, pc := s.npc,
        npc := s.npc + 4#32, prev := .other }

/-- From `s` to `t` nothing changes but the unit `u`, the count of free values and the program counters, which go on to
the next instruction. -/
def OnlyUnit (s t : State) (u : UnitId) : Prop :=
  t = { s.setUnit u (t.unit u) with pc := s.npc, npc := s.npc + 4#32, prev := t.prev, free := t.free }

/-- As `OnlyUnit`, and memory (with the record of the newest stores, `StoresBytes`) may change. -/
def OnlyUnitMem (s t : State) (u : UnitId) : Prop :=
  t = { s.setUnit u (t.unit u) with
        mem := t.mem, recent := t.recent, pc := s.npc, npc := s.npc + 4#32, prev := .other, free := t.free }

/-- What the prefetch path keeps of a store of `n` bytes from the address `a` of space `asi` on: it need not have seen it for
`fetchAhead` more instruction words (20_memory.md R142; log 17), and what stood in those bytes before. -/
def storeRecord (s : State) (asi : Asi) (a : Word) (n : Nat) : RecentStore :=
  { left := s.params.fetchAhead
    old := (List.range n).map fun j => (memKey asi (a + BitVec.ofNat 32 j), s.readByte asi (a + BitVec.ofNat 32 j)) }

/-- One store, of the bytes `bs`: they stand in memory from the address `a` of space `asi` on (a store of one word or doubleword
does not reach past the end of the address space: it is aligned), every other byte of every space reads as before, and the
store is the newest of those the prefetch path may not have seen. -/
def StoresBytes (s t : State) (asi : Asi) (a : Word) (bs : List Byte) : Prop :=
  (∀ (j : Nat) (h : j < bs.length), t.readByte asi (a + BitVec.ofNat 32 j) = bs[j]) ∧
    (∀ asi' a', (∀ j : Nat, j < bs.length → memKey asi' a' ≠ memKey asi (a + BitVec.ofNat 32 j)) →
      t.readByte asi' a' = s.readByte asi' a') ∧
    t.recent = storeRecord s asi a bs.length :: s.recent

/-- Every byte of every space reads as before. -/
def MemKept (s t : State) : Prop := ∀ asi a, t.readByte asi a = s.readByte asi a

/-- The trap `t` is taken from `s` with traps enabled: the state it leaves is that of the trap entry (60_exceptions.md
R520). -/
def TakesTrap (s : State) (o : Host.Outcome State Fault Refusal) (trap : Trap) : Prop := o = .next (s.raise trap)

/-- The two forms of an integer load or store: the plain one and the alternate-space one (40_load_store.md R224). -/
abbrev MemForms : Type := (RegNum → RegNum → Operand2 → Instr) × (RegNum → RegNum → AltSource → Instr)

/-- In state `s`, instruction `i` is one of the two `forms` and its access goes to address `ea` of space `asi`: the plain form
(20_memory.md R101, 40_load_store.md R200), or, in supervisor mode, the alternate form (R224). -/
def Accesses (s : State) (forms : MemForms) (rd rs1 : RegNum) (i : Instr) (asi : Asi) (ea : Word) : Prop :=
  (∃ src, i = forms.1 rd rs1 src ∧ asi = s.dataAsi ∧ ea = s.ea rs1 src) ∨
    (s.psr.s = true ∧ ∃ rs2, i = forms.2 rd rs1 (.reg asi rs2) ∧ ea = s.reg rs1 + s.reg rs2)

/-- The bytes of a word, the most significant first (20_memory.md R105). -/
def bigEndian (w : Word) : List Byte := [w.extractLsb' 24 8, w.extractLsb' 16 8, w.extractLsb' 8 8, w.extractLsb' 0 8]

/-! ## The bits that decoding ignores -/

/-- The bits of rd (spec 30_encoding.md R152). -/
def rdBits : Word := 0x3E000000#32

/-- The bits of rs1 (R152). -/
def rs1Bits : Word := 0x0007C000#32

/-- Bits 12:5. -/
def midBits : Word := 0x00001FE0#32

/-- What the second operand leaves unused: bits 12:5 when it is a register (R157). -/
def operandIgnored (w : Word) : Word := if iField w then 0#32 else midBits

/-- The ignored bits of a word with op = 10 (R157); of a reserved op3 (R165) all but op and op3, since it has no field. -/
def ignoredOp10 (w : Word) : Word :=
  if op3Field w ∈ [0x09#6, 0x0A#6, 0x0B#6, 0x0D#6, 0x0E#6, 0x0F#6, 0x19#6, 0x1A#6, 0x1B#6, 0x1D#6, 0x1E#6, 0x1F#6, 0x2C#6,
      0x2D#6, 0x2E#6, 0x2F#6, 0x3E#6, 0x3F#6] then 0x3E07FFFF#32
  else if op3Field w ∈ [0x25#6, 0x26#6, 0x27#6] then midBits -- SLL, SRL, SRA
  else if op3Field w ∈ [0x28#6, 0x29#6, 0x2A#6, 0x2B#6] then 0x0007FFFF#32 -- RDY, RDPSR, RDWIM, RDTBR
  else if op3Field w ∈ [0x30#6, 0x31#6, 0x32#6, 0x33#6, 0x39#6, 0x3B#6] then -- WRY, WRPSR, WRWIM, WRTBR, RETT, IFLUSH
    rdBits ||| operandIgnored w
  else if op3Field w = 0x3A#6 then 0x20000000#32 ||| operandIgnored w -- Ticc
  else if op3Field w = 0x34#6 then -- FPop1: the moves, the square roots and the conversions have one operand (R168)
    (if opfField w ∈ [0x001#9, 0x005#9, 0x009#9, 0x029#9, 0x02A#9, 0x02B#9, 0x0C4#9, 0x0C6#9, 0x0C7#9, 0x0C8#9, 0x0C9#9,
        0x0CB#9, 0x0CC#9, 0x0CD#9, 0x0CE#9, 0x0D1#9, 0x0D2#9, 0x0D3#9] then rs1Bits else 0#32)
  else if op3Field w = 0x35#6 then -- FPop2: the compares (R169)
    (if opfField w ∈ [0x051#9, 0x052#9, 0x053#9, 0x055#9, 0x056#9, 0x057#9] then rdBits else 0#32)
  else if op3Field w ∈ [0x36#6, 0x37#6] then 0#32 -- CPop1, CPop2
  else operandIgnored w

/-- The ignored bits of a word with op = 11 (R157; 41_fp_cp_load_store.md R267, R272, R273, R282, R285, R286); of a
reserved op3 (R166) all but op and op3. -/
def ignoredOp11 (w : Word) : Word :=
  if op3Field w ∈ [0x08#6, 0x0B#6, 0x0C#6, 0x0E#6, 0x18#6, 0x1B#6, 0x1C#6, 0x1E#6, 0x22#6, 0x28#6, 0x29#6, 0x2A#6, 0x2B#6,
      0x2C#6, 0x2D#6, 0x2E#6, 0x2F#6, 0x32#6, 0x38#6, 0x39#6, 0x3A#6, 0x3B#6, 0x3C#6, 0x3D#6, 0x3E#6, 0x3F#6] then 0x3E07FFFF#32
  else if op3Field w ∈ [0x21#6, 0x25#6, 0x26#6, 0x31#6, 0x35#6, 0x36#6] then -- LDFSR, STFSR, STDFQ, LDCSR, STCSR, STDCQ
    rdBits ||| operandIgnored w
  else if 0x10#6 ≤ op3Field w ∧ op3Field w ≤ 0x1F#6 then 0#32 -- the alternate-space forms
  else operandIgnored w

/-- The bits of a word that decoding ignores (R157): of UNIMP rd, of a reserved op2 (R154) all but op and op2; none of a
branch, of SETHI and of CALL. -/
def ignoredBits (w : Word) : Word :=
  if opField w = 0b00#2 then
    (if op2Field w = 0b000#3 then rdBits
     else if op2Field w ∈ [0b001#3, 0b011#3, 0b101#3] then 0x3E3FFFFF#32 else 0#32)
  else if opField w = 0b01#2 then 0#32
  else if opField w = 0b10#2 then ignoredOp10 w
  else ignoredOp11 w

/-! ## Parity -/

/-- The instructions that read the WIM (70_reset_and_hazards.md R632). -/
def ReadsWim (i : Instr) : Prop :=
  ∃ rd rs1 src, i = .rdwim rd ∨ i = .save rd rs1 src ∨ i = .restore rd rs1 src ∨ i = .rett rs1 src

/-- The instruction that reads the TBR; a trap reads it too (R632). -/
def ReadsTbr (i : Instr) : Prop := ∃ rd, i = .rdtbr rd

/-- The instructions that read Y (R632). -/
def ReadsY (i : Instr) : Prop := ∃ rd rs1 src, i = .rdy rd ∨ i = .mulscc rd rs1 src

/-- The plain instructions that read r[rs1] and their second operand, and no other r register (10_state.md R47): loads, the loads
and stores of the units, arithmetic and logic, JMPL, RETT, SAVE, RESTORE, Ticc, and the writes of control registers. -/
def operandReaders (rd rs1 : RegNum) (src : Operand2) : List Instr :=
  [.ldsb rd rs1 src, .ldsh rd rs1 src, .ldub rd rs1 src, .lduh rd rs1 src, .ld rd rs1 src, .ldd rd rs1 src,
   .ldstub rd rs1 src, .ldf rd rs1 src, .lddf rd rs1 src, .ldfsr rs1 src, .stf rd rs1 src, .stdf rd rs1 src,
   .stfsr rs1 src, .stdfq rs1 src, .ldc rd rs1 src, .lddc rd rs1 src, .ldcsr rs1 src, .stc rd rs1 src,
   .stdc rd rs1 src, .stcsr rs1 src, .stdcq rs1 src, .add rd rs1 src, .and rd rs1 src, .or rd rs1 src,
   .xor rd rs1 src, .sub rd rs1 src, .andn rd rs1 src, .orn rd rs1 src, .xnor rd rs1 src, .addx rd rs1 src,
   .subx rd rs1 src, .addcc rd rs1 src, .andcc rd rs1 src, .orcc rd rs1 src, .xorcc rd rs1 src, .subcc rd rs1 src,
   .andncc rd rs1 src, .orncc rd rs1 src, .xnorcc rd rs1 src, .addxcc rd rs1 src, .subxcc rd rs1 src,
   .taddcc rd rs1 src, .tsubcc rd rs1 src, .taddcctv rd rs1 src, .tsubcctv rd rs1 src, .mulscc rd rs1 src,
   .jmpl rd rs1 src, .rett rs1 src, .save rd rs1 src, .restore rd rs1 src, .tn rs1 src, .te rs1 src, .tle rs1 src,
   .tl rs1 src, .tleu rs1 src, .tcs rs1 src, .tneg rs1 src, .tvs rs1 src, .ta rs1 src, .tne rs1 src, .tg rs1 src,
   .tge rs1 src, .tgu rs1 src, .tcc rs1 src, .tpos rs1 src, .tvc rs1 src, .wry rs1 src, .wrpsr rs1 src,
   .wrwim rs1 src, .wrtbr rs1 src]

/-- The instruction reads r[n] (R47; log 34): a register of its operands; of a store or a swap the data in r[rd], of a double
store in the pair of rd. Nothing else is read: an illegal alternate-space word reads none, nor does IFLUSH (the model's
choices, log 34). -/
def ReadsReg (i : Instr) (n : RegNum) : Prop :=
  ∃ (rd rs1 rs2 : RegNum) (src : Operand2) (cnt : ShiftSource) (asi : Asi),
    (i ∈ operandReaders rd rs1 src ∧ (n = rs1 ∨ src = .reg n)) ∨
    (i ∈ [.st rd rs1 src, .stb rd rs1 src, .sth rd rs1 src, .swap rd rs1 src] ∧ (n = rd ∨ n = rs1 ∨ src = .reg n)) ∨
    (i = .std rd rs1 src ∧ (n = pairEven rd ∨ n = pairOdd rd ∨ n = rs1 ∨ src = .reg n)) ∨
    (i ∈ [.lda rd rs1 (.reg asi rs2), .lduba rd rs1 (.reg asi rs2), .lduha rd rs1 (.reg asi rs2),
        .ldda rd rs1 (.reg asi rs2), .ldsba rd rs1 (.reg asi rs2), .ldsha rd rs1 (.reg asi rs2),
        .ldstuba rd rs1 (.reg asi rs2)] ∧ (n = rs1 ∨ n = rs2)) ∨
    (i ∈ [.sta rd rs1 (.reg asi rs2), .stba rd rs1 (.reg asi rs2), .stha rd rs1 (.reg asi rs2),
        .swapa rd rs1 (.reg asi rs2)] ∧ (n = rd ∨ n = rs1 ∨ n = rs2)) ∨
    (i = .stda rd rs1 (.reg asi rs2) ∧ (n = pairEven rd ∨ n = pairOdd rd ∨ n = rs1 ∨ n = rs2)) ∨
    (i ∈ [.sll rd rs1 cnt, .srl rd rs1 cnt, .sra rd rs1 cnt] ∧ (n = rs1 ∨ cnt = .reg n))

/-- The instruction reads, in the window of `s`, an r register whose parity is wrong by `inp` (60_exceptions.md R585). -/
def ReadsWrongRegister (s : State) (inp : BoardInput) (i : Instr) : Prop :=
  ∃ n, ReadsReg i n ∧ n ≠ 0#5 ∧ wrongParity inp .registerFile (s.physWritten (phys s.psr.cwp n)) = true

/-- The integer loads and the atomic instructions: their forms, the size of the access, whether it is atomic, and its destination
(40_load_store.md R205 to R210, R220, R221, R225 to R230, R235, R237). -/
def integerLoads (rd : RegNum) : List (MemForms × AccessSize × Bool × LoadTarget) :=
  [((.ldsb, .ldsba), .byte, false, .single rd), ((.ldub, .lduba), .byte, false, .single rd),
   ((.ldsh, .ldsha), .half, false, .single rd), ((.lduh, .lduha), .half, false, .single rd),
   ((.ld, .lda), .word, false, .single rd), ((.ldd, .ldda), .double, false, .pair rd),
   ((.ldstub, .ldstuba), .byte, true, .single rd), ((.swap, .swapa), .word, true, .single rd)]

/-- The loads of the units: the unit, the instruction, the size of the access, and its destination (41_fp_cp_load_store.md R265
to R267, R280 to R282). -/
def unitLoads (rd rs1 : RegNum) (src : Operand2) : List (UnitId × Instr × AccessSize × LoadTarget) :=
  [(.fpu, .ldf rd rs1 src, .word, .unit .fpu rd), (.fpu, .lddf rd rs1 src, .double, .unitPair .fpu rd),
   (.fpu, .ldfsr rs1 src, .word, .unitStatus .fpu), (.cp, .ldc rd rs1 src, .word, .unit .cp rd),
   (.cp, .lddc rd rs1 src, .double, .unitPair .cp rd), (.cp, .ldcsr rs1 src, .word, .unitStatus .cp)]

/-- In state `s` the instruction receives data from memory for `target` (60_exceptions.md R581; log 34): it is a load, or an
atomic instruction, that no trap stops before its first read, and that read is not refused. -/
def ReceivesData (s : State) (i : Instr) (target : LoadTarget) : Prop :=
  (∃ (rd rs1 : RegNum) (forms : MemForms) (size : AccessSize) (atomic : Bool) (asi : Asi) (ea : Word),
    (forms, size, atomic, target) ∈ integerLoads rd ∧ Accesses s forms rd rs1 i asi ea ∧ misaligned size ea = false ∧
      s.refuses asi ea size .read atomic = false) ∨
    ∃ (rd rs1 : RegNum) (src : Operand2) (u : UnitId) (size : AccessSize), (u, i, size, target) ∈ unitLoads rd rs1 src ∧
      s.unitDisabled u = false ∧ (s.unit u).excPending = false ∧ misaligned size (s.ea rs1 src) = false ∧
      s.refuses s.dataAsi (s.ea rs1 src) size .read false = false

/-- Register `n` of window `w'` is no destination, in window `w`, of a load with this target. -/
def outsideTarget (target : LoadTarget) (w w' : Window) (n : RegNum) : Prop :=
  match target with
  | .single rd => phys w' n ≠ phys w rd
  | .pair rd => phys w' n ≠ phys w (pairEven rd) ∧ phys w' n ≠ phys w (pairOdd rd)
  | _ => True

/-- From `s` to `t` nothing changes but the destination of a load with this target, and the count of free values: of r
registers those the load names in the window of `s`, of a unit the registers it names, of its state register the bits that can
be written (41_fp_cp_load_store.md R267; log 29). -/
def OnlyTarget (s t : State) (target : LoadTarget) : Prop :=
  t = { s with globals := t.globals, windows := t.windows, fpu := t.fpu, cp := t.cp, free := t.free } ∧
    match target with
    | .nothing => t = s
    | .single _ | .pair _ =>
      t.fpu = s.fpu ∧ t.cp = s.cp ∧
        ∀ w n, outsideTarget target s.psr.cwp w n →
          t.regIn w n = s.regIn w n ∧ t.physWritten (phys w n) = s.physWritten (phys w n)
    | .unit u rd =>
      RegsKept s t ∧ (∀ x, x ≠ u → t.unit x = s.unit x) ∧ t.unit u = { s.unit u with regs := (t.unit u).regs } ∧
        ∀ n, n ≠ rd → (t.unit u).reg n = (s.unit u).reg n
    | .unitPair u rd =>
      RegsKept s t ∧ (∀ x, x ≠ u → t.unit x = s.unit x) ∧ t.unit u = { s.unit u with regs := (t.unit u).regs } ∧
        ∀ n, n ≠ pairEven rd → n ≠ pairOdd rd → (t.unit u).reg n = (s.unit u).reg n
    | .unitStatus u =>
      RegsKept s t ∧ (∀ x, x ≠ u → t.unit x = s.unit x) ∧
        t.unit u = { s.unit u with status := (t.unit u).status, cc := ccOfStatus u (t.unit u).status } ∧
        (t.unit u).status &&& ~~~statusWritable u = (s.unit u).status &&& ~~~statusWritable u

/-! ## Condition codes by their meaning -/

/-- A signed result outside the 32-bit range (42_arithmetic_logical_shift.md R302). -/
def signedOverflow (x : Int) : Bool := decide (x < -2 ^ 31 ∨ 2 ^ 31 ≤ x)

/-- `f` holds the codes of the addition a + b + carry-in but V: N and Z of the result, C the carry out of bit 31 (R302). -/
def AddCodes (a b : Word) (cin : Bool) (f : Icc) : Prop :=
  f.n = (BitVec.ofNat 32 (a.toNat + b.toNat + cin.toNat)).getLsbD 31 ∧
    f.z = decide ((a.toNat + b.toNat + cin.toNat) % 2 ^ 32 = 0) ∧
    f.c = decide (2 ^ 32 ≤ a.toNat + b.toNat + cin.toNat)

/-- `f` holds the codes of the subtraction a - b - carry-in but V: N and Z of the result, C the borrow (R302). -/
def SubCodes (a b : Word) (cin : Bool) (f : Icc) : Prop :=
  f.n = (BitVec.ofInt 32 (a.toNat - b.toNat - cin.toNat)).getLsbD 31 ∧
    f.z = decide (BitVec.ofInt 32 (a.toNat - b.toNat - cin.toNat) = 0#32) ∧
    f.c = decide (a.toNat < b.toNat + cin.toNat)

/-- One of the two operands has a tag that is not 00 (R314). -/
def tagged (a b : Word) : Bool := decide (a.toNat % 4 ≠ 0 ∨ b.toNat % 4 ≠ 0)

/-! ## The instructions by family -/

/-- The sixteen conditions of Bicc and Ticc (43_control_transfer.md R371): the branch, the trap instruction, and the test on
the integer condition codes. -/
def iccConditions : List ((Bool → BitVec 22 → Instr) × (RegNum → Operand2 → Instr) × (Icc → Bool)) :=
  [(.bn, .tn, fun _ => false), (.be, .te, fun f => f.z), (.ble, .tle, fun f => f.z || (f.n ^^ f.v)),
   (.bl, .tl, fun f => f.n ^^ f.v), (.bleu, .tleu, fun f => f.c || f.z), (.bcs, .tcs, fun f => f.c),
   (.bneg, .tneg, fun f => f.n), (.bvs, .tvs, fun f => f.v), (.ba, .ta, fun _ => true), (.bne, .tne, fun f => !f.z),
   (.bg, .tg, fun f => !(f.z || (f.n ^^ f.v))), (.bge, .tge, fun f => !(f.n ^^ f.v)),
   (.bgu, .tgu, fun f => !(f.c || f.z)), (.bcc, .tcc, fun f => !f.c), (.bpos, .tpos, fun f => !f.n),
   (.bvc, .tvc, fun f => !f.v)]

/-- The sixteen conditions of FBfcc (R375) and CBccc (R377): the two branches, and the values of the condition codes for
which they are taken. -/
def unitConditions : List ((Bool → BitVec 22 → Instr) × (Bool → BitVec 22 → Instr) × List Nat) :=
  [(.fbn, .cbn, []), (.fbne, .cb123, [1, 2, 3]), (.fblg, .cb12, [1, 2]), (.fbul, .cb13, [1, 3]), (.fbl, .cb1, [1]),
   (.fbug, .cb23, [2, 3]), (.fbg, .cb2, [2]), (.fbu, .cb3, [3]), (.fba, .cba, [0, 1, 2, 3]), (.fbe, .cb0, [0]),
   (.fbue, .cb03, [0, 3]), (.fbge, .cb02, [0, 2]), (.fbuge, .cb023, [0, 2, 3]), (.fble, .cb01, [0, 1]),
   (.fbule, .cb013, [0, 1, 3]), (.fbo, .cb012, [0, 1, 2])]

/-- The branch of a row of `unitConditions` for each unit. -/
def unitBranch (u : UnitId) (row : (Bool → BitVec 22 → Instr) × (Bool → BitVec 22 → Instr) × List Nat) :
    Bool → BitVec 22 → Instr :=
  match u with
  | .fpu => row.1
  | .cp => row.2.1

/-- The FPops that compare (45_fpop_cpop.md R483 to R488), with the format of their operands. -/
def fpComparisons (rs1 rs2 : RegNum) : List (Instr × FpFormat) :=
  [(.fcmps rs1 rs2, .single), (.fcmpd rs1 rs2, .double), (.fcmpx rs1 rs2, .extended), (.fcmpes rs1 rs2, .single),
   (.fcmped rs1 rs2, .double), (.fcmpex rs1 rs2, .extended)]

/-- The FPops that copy a register bit for bit but for its sign (R450 to R452), with the word they deliver from a word. -/
def fpMoves (rd rs2 : RegNum) : List (Instr × (Word → Word)) :=
  [(.fmovs rd rs2, fun w => w), (.fnegs rd rs2, fun w => w ^^^ 0x80000000#32), (.fabss rd rs2, fun w => w &&& 0x7FFFFFFF#32)]

/-- The FPops of one operand that compute (R453 to R455, R468 to R479): source and destination formats, operation. -/
def fpUnaries (rd rs2 : RegNum) : List (Instr × FpFormat × FpFormat × (FpVal → Option FpVal)) :=
  [(.fsqrts rd rs2, .single, .single, FpVal.sqrt), (.fsqrtd rd rs2, .double, .double, FpVal.sqrt),
   (.fsqrtx rd rs2, .extended, .extended, FpVal.sqrt), (.fitos rd rs2, .int, .single, some),
   (.fitod rd rs2, .int, .double, some), (.fitox rd rs2, .int, .extended, some), (.fstoi rd rs2, .single, .int, some),
   (.fdtoi rd rs2, .double, .int, some), (.fxtoi rd rs2, .extended, .int, some), (.fstod rd rs2, .single, .double, some),
   (.fstox rd rs2, .single, .extended, some), (.fdtos rd rs2, .double, .single, some),
   (.fdtox rd rs2, .double, .extended, some), (.fxtos rd rs2, .extended, .single, some),
   (.fxtod rd rs2, .extended, .double, some)]

/-- The FPops of two operands (R456 to R467): the format and the operation. -/
def fpBinaries (rd rs1 rs2 : RegNum) : List (Instr × FpFormat × (FpVal → FpVal → Option FpVal)) :=
  [(.fadds rd rs1 rs2, .single, FpVal.add), (.faddd rd rs1 rs2, .double, FpVal.add),
   (.faddx rd rs1 rs2, .extended, FpVal.add), (.fsubs rd rs1 rs2, .single, FpVal.sub),
   (.fsubd rd rs1 rs2, .double, FpVal.sub), (.fsubx rd rs1 rs2, .extended, FpVal.sub),
   (.fmuls rd rs1 rs2, .single, FpVal.mul), (.fmuld rd rs1 rs2, .double, FpVal.mul),
   (.fmulx rd rs1 rs2, .extended, FpVal.mul), (.fdivs rd rs1 rs2, .single, FpVal.div),
   (.fdivd rd rs1 rs2, .double, FpVal.div), (.fdivx rd rs1 rs2, .extended, FpVal.div)]

/-- The two rows of reserved opf values (R482). -/
def fpReservedForms (rd rs1 : RegNum) (opf : BitVec 9) (rs2 : RegNum) : List Instr :=
  [.fpop1Reserved rd rs1 opf rs2, .fpop2Reserved rd rs1 opf rs2]

/-- Every FPop (R440). -/
def fpOperates (rd rs1 : RegNum) (opf : BitVec 9) (rs2 : RegNum) : List Instr :=
  (fpComparisons rs1 rs2).map Prod.fst ++ (fpMoves rd rs2).map Prod.fst ++ (fpUnaries rd rs2).map Prod.fst ++
    (fpBinaries rd rs1 rs2).map Prod.fst ++ fpReservedForms rd rs1 opf rs2

/-- The two coprocessor-operate instructions (R491, R492). -/
def cpOperates (rd rs1 : RegNum) (opc : BitVec 9) (rs2 : RegNum) : List Instr := [.cpop1 rd rs1 opc rs2, .cpop2 rd rs1 opc rs2]

/-- The register `n` of a unit is none of those an operand of format `f` at register `rd` occupies (R443 to R445). -/
def outsideOperand (f : FpFormat) (rd n : RegNum) : Prop :=
  match f with
  | .int | .single => n ≠ rd
  | .double => n ≠ rd ∧ n ≠ rd + 1#5
  | .extended => n ≠ rd ∧ n ≠ rd + 1#5 ∧ n ≠ rd + 2#5 ∧ n ≠ rd + 3#5

/-- Either the FPU accepted an FPop without an exception, its queue as it was, or it has an exception pending with the FPop at
the end of its queue (R447, R482). -/
def AcceptedOrPending (s t : State) : Prop :=
  (t.fpu.excPending = false ∧ t.fpu.queue = s.fpu.queue) ∨
    (t.fpu.excPending = true ∧ t.fpu.queue = s.fpu.queue ++ [{ addr := s.pc, instr := s.ir }])

/-- UNIMP and every reserved value of op2 and op3 (46_misc.md R500, R501; 30_encoding.md R156, R165, R166). -/
def illegalEncodings (const22 : BitVec 22) : List Instr :=
  [.unimp const22, .reservedOp00_001, .reservedOp00_011, .reservedOp00_101, .reservedOp10_001001,
   .reservedOp10_001010, .reservedOp10_001011, .reservedOp10_001101, .reservedOp10_001110, .reservedOp10_001111,
   .reservedOp10_011001, .reservedOp10_011010, .reservedOp10_011011, .reservedOp10_011101, .reservedOp10_011110,
   .reservedOp10_011111, .reservedOp10_101100, .reservedOp10_101101, .reservedOp10_101110, .reservedOp10_101111,
   .reservedOp10_111110, .reservedOp10_111111, .reservedOp11_001000, .reservedOp11_001011, .reservedOp11_001100,
   .reservedOp11_001110, .reservedOp11_011000, .reservedOp11_011011, .reservedOp11_011100, .reservedOp11_011110,
   .reservedOp11_100010, .reservedOp11_101000, .reservedOp11_101001, .reservedOp11_101010, .reservedOp11_101011,
   .reservedOp11_101100, .reservedOp11_101101, .reservedOp11_101110, .reservedOp11_101111, .reservedOp11_110010,
   .reservedOp11_111000, .reservedOp11_111001, .reservedOp11_111010, .reservedOp11_111011, .reservedOp11_111100,
   .reservedOp11_111101, .reservedOp11_111110, .reservedOp11_111111]

/-! ## Numbers -/

/-- The rational number of a finite datum. -/
def FpVal.rat : FpVal → Option ℚ
  | .num neg m e => some ((if neg then -1 else 1) * m * 2 ^ e)
  | _ => none

/-- The datum is a number with this sign, and the number is `q`. -/
def FpVal.IsNumber (v : FpVal) (neg : Bool) (q : ℚ) : Prop := (∃ m e, v = .num neg m e) ∧ v.rat = some q

/-- (-1)^s. -/
def signFactor (neg : Bool) : ℚ := if neg then -1 else 1

/-- `v` is what Table 2 gives a pattern with this sign, a biased exponent field `e` up to `emax` and a fraction field `f` of `p`
bits, with this bias (45_fpop_cpop.md R443, R444): infinity; a NaN, signaling when the highest bit of the fraction is 0; a
normalized number (-1)^s * 2^(e - bias) * 1.f; a subnormal one or zero, (-1)^s * 2^(1 - bias) * 0.f. -/
def Table2 (v : FpVal) (neg : Bool) (e f p emax bias : Nat) : Prop :=
  (e = emax → f = 0 → v = .inf neg) ∧ (e = emax → f ≠ 0 → v = .nan (decide (f < 2 ^ (p - 1)))) ∧
    (0 < e → e < emax → v.IsNumber neg (signFactor neg * 2 ^ ((e : ℤ) - bias) * (1 + f / 2 ^ p))) ∧
    (e = 0 → v.IsNumber neg (signFactor neg * 2 ^ (1 - (bias : ℤ)) * (f / 2 ^ p)))

/-- `v` is what Table 3 gives an extended pattern with this sign, exponent field `e`, integer part `j` and fraction `f` of 63
bits (R445): infinity and the NaNs whatever j; a normalized number (-1)^s * 2^(e - 16383) * 1.f with j = 1; a subnormal one or
zero, (-1)^s * 2^(-16383) * 0.f, with j = 0. A pattern that stands in no row has no datum (log 28). -/
def Table3 (v : Option FpVal) (neg : Bool) (e f : Nat) (j : Bool) : Prop :=
  (e = 32767 → f = 0 → v = some (.inf neg)) ∧ (e = 32767 → f ≠ 0 → v = some (.nan (decide (f < 2 ^ 62)))) ∧
    (0 < e → e < 32767 → j = true →
      ∃ x, v = some x ∧ x.IsNumber neg (signFactor neg * 2 ^ ((e : ℤ) - 16383) * (1 + f / 2 ^ 63))) ∧
    (e = 0 → j = false → ∃ x, v = some x ∧ x.IsNumber neg (signFactor neg * 2 ^ (-16383 : ℤ) * (f / 2 ^ 63))) ∧
    (0 < e → e < 32767 → j = false → v = none) ∧ (e = 0 → j = true → v = none)

end Sys2Proof.Machine
end

