-- ==== Sys2Proof/Certificates/Slice0/Obligations.lean ====
section
/-! DEFINITION. The statements for the provers. A statement about an instruction says for which states it answers a next
state, what that state holds, and what it leaves alone (the frames of Sys2Proof/Safety.lean). -/

open Sys2Proof Sys2Proof.Machine

/-! ## The step, the decoder, the invariant -/

/-- One step with nothing pending runs the word at PC (00_scope.md R21 step 3, R24): `exec` of the instruction it decodes to,
in the state in which the late writes of control registers that are due are seen (R435, log 22) and the word is latched, counted in
the program flow checksum if that is enabled (60_exceptions.md R591; that the word of an instruction that traps counts too is the
model's choice, log 44) and seen by the prefetch path (20_memory.md R142; the count
of words is the model's, log 17), with the outputs of the step before gone (log 39). Every word counts but the NOP 0x01000000
(R593) and the check words 0x011Fxxxx (R592), these by the parameter pfcIncludesCheckWord (R592; log 24). -/
def Obligations.StepRunsDecodedInstruction : Prop :=
  ∀ (s : State) (i : Instr) (w : Word),
    (s.countsInFlow w = true ↔
      w ≠ 0x01000000#32 ∧ (s.params.pfcIncludesCheckWord = true ∨ w.toNat / 2 ^ 16 ≠ 0x011F)) ∧
    (WellFormed i = true → s.mode = .execute → s.board = [] →
      let a := s.tickLate
      a.interruptPending = false → a.annul = false → a.fetchOverlaps = false → a.fetchRefused = false →
      a.readWord a.instrAsi a.pc = w → decode w = i →
      step s = exec i
        { a with
          ir := w
          pfcSum := if s.pins.flowEnabled && s.countsInFlow w then s.pfcSum ^^^ w else s.pfcSum
          recent := tickStores s.recent
          intack := false
          hwerror := false })

/-- Seven words written out from the formats and opcode maps (30_encoding.md R151, R154, R165, R166, R168). -/
def Obligations.DecodeReadsSampleWords : Prop :=
  decode 0x86004002#32 = .add 3#5 1#5 (.reg 2#5) ∧ decode 0xD0006010#32 = .ld 8#5 1#5 (.imm 16#13) ∧
    decode 0x32BFFFFE#32 = .bne true 0x3FFFFE#22 ∧ decode 0x7FFFFFFF#32 = .call 0x3FFFFFFF#30 ∧
    decode 0x81CC8000#32 = .rett 18#5 (.reg 0#5) ∧ decode 0x87A04822#32 = .fadds 3#5 1#5 2#5 ∧
    decode 0x00000000#32 = .unimp 0#22

/-- Decoding undoes encoding, for every instruction and every value of its operands (30_encoding.md R151 to R176). -/
def Obligations.DecodeInvertsEncode : Prop :=
  ∀ i : Instr, WellFormed i = true → decode (encode i) = i

/-- Every word is an instruction or a reserved encoding (R155): what it decodes to is well-formed, and encoding that gives the
word back but for the bits it ignores, which are those of R157 (with rd of LDFSR, STFSR, STDFQ, LDCSR, STCSR, STDCQ,
41_fp_cp_load_store.md R267, R272, R273, R282, R285, R286, and all fields of a reserved op2 or op3); and those bits are ignored:
a word that differs in nothing else decodes to the same instruction. -/
def Obligations.EveryWordDecodesWellFormed : Prop :=
  ∀ w : Word, WellFormed (decode w) = true ∧
    encode (decode w) &&& ~~~ignoredBits w = w &&& ~~~ignoredBits w ∧
    ∀ w' : Word, w' &&& ~~~ignoredBits w = w &&& ~~~ignoredBits w → decode w' = decode w

/-- The invariant holds after reset (10_state.md R95, R50); that INTACK is not asserted then, so that its clause asks nothing, is the
model's choice (log 39), and so is that memory lists nothing then (log 2). -/
def Obligations.ResetSatisfiesInvariant : Prop := State.reset.Inv

/-- Every step keeps the invariant: word-aligned program counters (R50), memory in canonical form (the model's own representation),
and, while INTACK stands, traps disabled and supervisor mode. The last rests on how long INTACK stands, in the state that taking the
interrupt leaves and no longer than to the next boundary in execute mode, which the spec does not say: the model's choice (log 39).
The spec says that it is asserted when an interrupt is taken (60_exceptions.md R567) and that a trap then disables traps and sets S
(R520). -/
def Obligations.StepKeepsInvariant : Prop :=
  ∀ s t : State, s.Inv → step s = .next t → t.Inv

/-- User mode is confined (10_state.md R67; 44_control_registers.md R420): an instruction executed in user mode leaves PIL, EF,
EC, S, PS, ET, WIM, TBR and the mode as they are, and as they will be once the writes of them that are still late are seen, or
traps to the handler that TBA and its trap type give, in supervisor mode, with all of those seen (R435, R647; log 22); and it changes no byte of a memory space other than the common one (20_memory.md R101, R102; that the other spaces are memories
of their own is the spec's decision D3, the model's choice, log 15). -/
def Obligations.UserModeIsConfined : Prop :=
  ∀ (i : Instr) (s t : State), s.psr.s = false → s.mem.wf = true → exec i s = .next t →
    let s' := s.settleLate
    ((SamePrivileges s.controls t.controls ∧ SamePrivileges s'.controls t.settleLate.controls ∧ t.mode = s.mode) ∨
      (t.late = [] ∧ t.psr.s = true ∧ t.psr.ps = s'.psr.s ∧ t.psr.et = false ∧ t.psr.pil = s'.psr.pil ∧ t.psr.ef = s'.psr.ef ∧
        t.psr.ec = s'.psr.ec ∧ t.wim = s'.wim ∧ t.tbr.tba = s'.tbr.tba ∧ t.pc = s'.tbr.tba ++ t.tbr.tt ++ 0#4 ∧
        t.mode = if s.psr.et then s.mode else .error)) ∧
      ∀ asi a, commonAsi asi = false → t.readByte asi a = s.readByte asi a

/-! ## Registers and memory -/

/-- The ins of a window are the outs of the window above it, window 0 above window 7; the globals are those of every window; and
nothing else is shared: two registers of any two windows are one exactly then, so that a window's locals are its own, and a write of
one is seen in the other exactly then (10_state.md R42, R43). r[n] is the register of the current window. -/
def Obligations.WindowsOverlap : Prop :=
  ∀ (s : State) (w w' : Window) (n m : RegNum) (v : Word),
    let shared : Prop :=
      (n = m ∧ (n.toNat < 8 ∨ w = w')) ∨ (8 ≤ n.toNat ∧ n.toNat ≤ 15 ∧ m = n + 16#5 ∧ w = w' + 1#3) ∨
        (8 ≤ m.toNat ∧ m.toNat ≤ 15 ∧ n = m + 16#5 ∧ w' = w + 1#3)
    (phys w n = phys w' m ↔ shared) ∧ (shared → s.regIn w n = s.regIn w' m) ∧
      (shared → m ≠ 0#5 → (s.setRegIn w n v).regIn w' m = v) ∧
      (¬shared → (s.setRegIn w n v).regIn w' m = s.regIn w' m) ∧ s.reg n = s.regIn s.psr.cwp n

/-- Two registers of one window never share storage: a write of one changes it (unless it is r[0], which reads 0 and discards
what is written, R44) and no other. A register written counts as written since power-up (10_state.md R89, 60_exceptions.md
R585), and no other does on its account; r[0], which is no storage, always does (the bit as State holds it: log 37). -/
def Obligations.RegisterWritesAreSeparate : Prop :=
  ∀ (s : State) (w : Window) (n m : RegNum) (v : Word),
    ((s.setRegIn w n v).regIn w m = if m = 0#5 then 0#32 else if m = n then v else s.regIn w m) ∧
      ((s.setRegIn w n v).physWritten (phys w m) = true ↔ m = n ∨ s.physWritten (phys w m) = true) ∧
      CountsWritten s (s.setRegIn w n v) [phys w n] ∧ s.physWritten (phys w 0#5) = true

/-- A word stored is read back from its address, in every space that shares the array, big-endian (20_memory.md R103, R105);
memory stays canonical, and no other byte of any space changes. The spaces that share the array are 0x08 to 0x0B (R103); every other
space is a memory of its own (the spec's decision D3, the model's choice, log 15), a byte of memory is known by its space and its
address, and what the prefetch path keeps of the store is the model's (20_memory.md R142; log 17). -/
def Obligations.StoredWordReadsBack : Prop :=
  ∀ (s : State) (asi asi' : Asi) (a : Word) (w : Word),
    (commonAsi asi = true ↔ 0x08 ≤ asi.toNat ∧ asi.toNat ≤ 0x0B) ∧
    (∀ a', memKey asi a = memKey asi' a' ↔
      a = a' ∧ (asi = asi' ∨ (commonAsi asi = true ∧ commonAsi asi' = true))) ∧
    (∀ j : Nat, a.toNat + j < 2 ^ 32 → memKey asi (a + BitVec.ofNat 32 j) = memKey asi a + j) ∧
    (s.mem.wf = true →
      let t := s.store asi a (bytesOfWord w)
      t.mem.wf = true ∧ t.readWord asi a = w ∧ (commonAsi asi = true → commonAsi asi' = true → t.readWord asi' a = w) ∧
        t.readByte asi a = w.extractLsb' 24 8 ∧
        StoresBytes s t asi a [w.extractLsb' 24 8, w.extractLsb' 16 8, w.extractLsb' 8 8, w.extractLsb' 0 8])

/-! ## Arithmetic, logic, shifts -/

/-- ADD, SUB, AND, OR, XOR (42_arithmetic_logical_shift.md R305, R310, R320, R324, R328): opcode, result, nothing else. -/
def Obligations.AddSubAndOrXorResults : Prop :=
  ∀ (s : State) (rd rs1 : RegNum) (src : Operand2) (i : Instr) (op3 : BitVec 6) (v : Word),
    (i, op3, v) ∈
      [(.add rd rs1 src, 0b000000#6, s.reg rs1 + s.operand2 src), (.sub rd rs1 src, 0b000100#6, s.reg rs1 - s.operand2 src),
       (.and rd rs1 src, 0b000001#6, s.reg rs1 &&& s.operand2 src), (.or rd rs1 src, 0b000010#6, s.reg rs1 ||| s.operand2 src),
       (.xor rd rs1 src, 0b000011#6, s.reg rs1 ^^^ s.operand2 src)] →
    opField (encode i) = 0b10#2 ∧ op3Field (encode i) = op3 ∧
      ∃ t, exec i s = .next t ∧ WritesValue s t s.psr.cwp rd v ∧ OnlyRegs s t ∧ MemKept s t

/-- ADDX, SUBX, ANDN, ORN, XNOR (R307, R312, R322, R326, R330), and ANDNcc, ORNcc, XNORcc (R323, R327, R331) with N and Z of the
result, V and C cleared. The carry-in and the complement of the second operand are PRESUMED by the spec (log 6, 7). The new codes
stand in a write of the PSR that is still late too (R435, 70_reset_and_hazards.md R640; the model's choice, log 22). The second
operand is r[rs2] or the sign-extended constant, and with r[rs1] it gives the effective address (30_encoding.md R160). Of ADD, SUB,
AND, OR and XOR, whose results are AddSubAndOrXorResults', r[rd] and no other register counts as written after them (60_exceptions.md
R585; log 37). -/
def Obligations.CarryAndComplementForms : Prop :=
  ∀ (s : State) (rd rs1 : RegNum) (src : Operand2) (i : Instr) (v : Word),
    (∀ rs2, s.operand2 (.reg rs2) = s.reg rs2) ∧ (∀ simm13, s.operand2 (.imm simm13) = BitVec.ofInt 32 simm13.toInt) ∧
    s.ea rs1 src = s.reg rs1 + s.operand2 src ∧
    ((i, v) ∈
        [(.addx rd rs1 src, BitVec.ofNat 32 ((s.reg rs1).toNat + (s.operand2 src).toNat + s.psr.icc.c.toNat)),
         (.subx rd rs1 src, BitVec.ofInt 32 ((s.reg rs1).toNat - (s.operand2 src).toNat - s.psr.icc.c.toNat)),
         (.andn rd rs1 src, s.reg rs1 &&& ~~~s.operand2 src), (.orn rd rs1 src, s.reg rs1 ||| ~~~s.operand2 src),
         (.xnor rd rs1 src, ~~~(s.reg rs1 ^^^ s.operand2 src))] →
      ∃ t, exec i s = .next t ∧ WritesReg s t s.psr.cwp rd v ∧ OnlyRegs s t ∧ MemKept s t) ∧
    ((i, v) ∈
        [(.andncc rd rs1 src, s.reg rs1 &&& ~~~s.operand2 src), (.orncc rd rs1 src, s.reg rs1 ||| ~~~s.operand2 src),
         (.xnorcc rd rs1 src, ~~~(s.reg rs1 ^^^ s.operand2 src))] →
      ∃ t, exec i s = .next t ∧ WritesReg s t s.psr.cwp rd v ∧
        OnlyRegsIcc s t { n := v.getLsbD 31, z := decide (v = 0#32), v := false, c := false } ∧ MemKept s t) ∧
    (i ∈ [.add rd rs1 src, .sub rd rs1 src, .and rd rs1 src, .or rd rs1 src, .xor rd rs1 src] →
      ∃ t, exec i s = .next t ∧ CountsWritten s t [phys s.psr.cwp rd])

/-- ANDcc, ORcc, XORcc (R321, R325, R329): opcode, result, N and Z of the result, V and C cleared. The new codes stand in a write of
the PSR that is still late too (R435, 70_reset_and_hazards.md R640; the model's choice, log 22). -/
def Obligations.AndOrXorSetCodes : Prop :=
  ∀ (s : State) (rd rs1 : RegNum) (src : Operand2) (i : Instr) (op3 : BitVec 6) (v : Word),
    (i, op3, v) ∈
      [(.andcc rd rs1 src, 0b010001#6, s.reg rs1 &&& s.operand2 src), (.orcc rd rs1 src, 0b010010#6, s.reg rs1 ||| s.operand2 src),
       (.xorcc rd rs1 src, 0b010011#6, s.reg rs1 ^^^ s.operand2 src)] →
    opField (encode i) = 0b10#2 ∧ op3Field (encode i) = op3 ∧
      ∃ t, exec i s = .next t ∧ WritesReg s t s.psr.cwp rd v ∧
        OnlyRegsIcc s t { n := v.getLsbD 31, z := decide (v = 0#32), v := false, c := false } ∧ MemKept s t

/-- ADDcc and ADDXcc (R306, R308, R302): the sum with the carry-in, N, Z, C by its integer value, V exactly on signed
overflow. The carry-in of ADDXcc is PRESUMED (log 6). The new codes stand in a write of the PSR that is still late too (R435,
70_reset_and_hazards.md R640; the model's choice, log 22). -/
def Obligations.AdditionSetsCodes : Prop :=
  ∀ (s : State) (rd rs1 : RegNum) (src : Operand2) (i : Instr) (cin : Bool),
    (i, cin) ∈ [(.addcc rd rs1 src, false), (.addxcc rd rs1 src, s.psr.icc.c)] →
    ∃ t f, exec i s = .next t ∧
      WritesReg s t s.psr.cwp rd (BitVec.ofNat 32 ((s.reg rs1).toNat + (s.operand2 src).toNat + cin.toNat)) ∧
      OnlyRegsIcc s t f ∧ MemKept s t ∧ AddCodes (s.reg rs1) (s.operand2 src) cin f ∧
      f.v = signedOverflow ((s.reg rs1).toInt + (s.operand2 src).toInt + cin.toNat)

/-- SUBcc and SUBXcc (R311, R313, R302; the borrow-in of SUBXcc is PRESUMED, log 6): the difference with the borrow-in, N, Z, C by
its integer value, V exactly on signed overflow. The new codes stand in a write of the PSR that is still late too (R435,
70_reset_and_hazards.md R640; the model's choice, log 22). -/
def Obligations.SubtractionSetsCodes : Prop :=
  ∀ (s : State) (rd rs1 : RegNum) (src : Operand2) (i : Instr) (cin : Bool),
    (i, cin) ∈ [(.subcc rd rs1 src, false), (.subxcc rd rs1 src, s.psr.icc.c)] →
    ∃ t f, exec i s = .next t ∧
      WritesReg s t s.psr.cwp rd (BitVec.ofInt 32 ((s.reg rs1).toNat - (s.operand2 src).toNat - cin.toNat)) ∧
      OnlyRegsIcc s t f ∧ MemKept s t ∧ SubCodes (s.reg rs1) (s.operand2 src) cin f ∧
      f.v = signedOverflow ((s.reg rs1).toInt - (s.operand2 src).toInt - cin.toNat)

/-- The tagged additions and subtractions (R314 to R318). TADDcc and TSUBcc end as ADDcc and SUBcc, with V also set when a tag
is not 00; TADDccTV and TSUBccTV end so when V would be clear, and otherwise take tag_overflow and change nothing else. What
counts as tagged is PRESUMED (log 8). The new codes stand in a write of the PSR that is still late too (R435,
70_reset_and_hazards.md R640; the model's choice, log 22). -/
def Obligations.TaggedFormsSetCodesOrTrap : Prop :=
  ∀ (s : State) (rd rs1 : RegNum) (src : Operand2) (i itv : Instr) (v : Word) (bad : Bool) (codes : Icc → Prop),
    (i, itv, v, bad, codes) ∈
      [(.taddcc rd rs1 src, .taddcctv rd rs1 src, s.reg rs1 + s.operand2 src,
        signedOverflow ((s.reg rs1).toInt + (s.operand2 src).toInt) || tagged (s.reg rs1) (s.operand2 src),
        AddCodes (s.reg rs1) (s.operand2 src) false),
       (.tsubcc rd rs1 src, .tsubcctv rd rs1 src, s.reg rs1 - s.operand2 src,
        signedOverflow ((s.reg rs1).toInt - (s.operand2 src).toInt) || tagged (s.reg rs1) (s.operand2 src),
        SubCodes (s.reg rs1) (s.operand2 src) false)] →
    (∃ t f, exec i s = .next t ∧ WritesReg s t s.psr.cwp rd v ∧ OnlyRegsIcc s t f ∧ MemKept s t ∧ codes f ∧ f.v = bad) ∧
    (bad = false →
      ∃ t f, exec itv s = .next t ∧ WritesReg s t s.psr.cwp rd v ∧ OnlyRegsIcc s t f ∧ MemKept s t ∧ codes f ∧ f.v = false) ∧
    (bad = true → exec itv s = .next (s.raise .tagOverflow))

/-- MULScc (R340), a step of the multiplication: the first operand shifted right with N xor V entering, plus the second if Y is
odd; the bit shifted out enters Y. PRESUMED (log 9). It takes the place of a write of Y that is still late, and its codes that of
those in a write of the PSR (log 22). -/
def Obligations.MultiplyStepAddsAndShifts : Prop :=
  ∀ (s : State) (rd rs1 : RegNum) (src : Operand2),
    let high : Nat := if (s.psr.icc.n ^^ s.psr.icc.v) = true then 2 ^ 31 else 0
    let left : Word := BitVec.ofNat 32 (high + (s.reg rs1).toNat / 2)
    let right : Word := if s.y.toNat % 2 = 1 then s.operand2 src else 0#32
    ∃ t f, exec (.mulscc rd rs1 src) s = .next t ∧ WritesReg s t s.psr.cwp rd (left + right) ∧
      t.y.toNat = (s.reg rs1).toNat % 2 * 2 ^ 31 + s.y.toNat / 2 ∧ AddCodes left right false f ∧
      f.v = signedOverflow (left.toInt + right.toInt) ∧
      t = { s with
            globals := t.globals, windows := t.windows, y := t.y, written := { s.written with y := true },
            psr := { s.psr with icc := f },
            late := (s.late.filter LateWrite.survivesY).map (LateWrite.afterPsr fun p => { p with icc := f }),
            pc := s.npc, npc := s.npc + 4#32, prev := .other } ∧
      MemKept s t

/-- SLL, SRL, SRA (R335 to R337) by the number 2^n; the count n is five bits of r[rs2] or of the instruction (PRESUMED, log
5). -/
def Obligations.ShiftsMultiplyAndDivide : Prop :=
  ∀ (s : State) (rd rs1 : RegNum) (cnt : ShiftSource) (n : Nat) (i : Instr) (v : Word),
    n = (match cnt with | .reg rs2 => (s.reg rs2).toNat % 32 | .imm shcnt => shcnt.toNat) →
    (i, v) ∈
      [(.sll rd rs1 cnt, BitVec.ofNat 32 ((s.reg rs1).toNat * 2 ^ n)), (.srl rd rs1 cnt, BitVec.ofNat 32 ((s.reg rs1).toNat / 2 ^ n)),
       (.sra rd rs1 cnt, BitVec.ofInt 32 ((s.reg rs1).toInt / 2 ^ n))] →
    ∃ t, exec i s = .next t ∧ WritesReg s t s.psr.cwp rd v ∧ OnlyRegs s t ∧ MemKept s t

/-- SETHI (R345, R346), unless it is the check of an enabled program flow control (60_exceptions.md R592). -/
def Obligations.SethiLoadsHighBits : Prop :=
  ∀ (s : State) (rd : RegNum) (imm22 : BitVec 22), s.pins.flowEnabled = false ∨ rd ≠ 0#5 →
    ∃ t, exec (.sethi rd imm22) s = .next t ∧ WritesReg s t s.psr.cwp rd (BitVec.ofNat 32 (imm22.toNat * 1024)) ∧
      OnlyRegs s t ∧ MemKept s t

/-- SETHI to r[0] with program flow control enabled (60_exceptions.md R592, R593): the NOP clears the checksum and skips the
next check; a check compares the signature unless it is to be skipped, clears the checksum, and takes program_flow_error on a
difference. That a check that fails clears the checksum too is the spec's decision 92_eei_decisions.md D14(c), the model's choice
(log 24). Any other such SETHI does one or the other, freely (the model's reading of D14, log 24). -/
def Obligations.FlowCheckComparesSignature : Prop :=
  ∀ (s : State) (imm22 : BitVec 22), s.pins.flowEnabled = true →
    let signature : BitVec 16 := s.pfcSum.extractLsb' 16 16 ^^^ s.pfcSum.extractLsb' 0 16
    let ends (t : State) (sum : Word) (skip : Bool) : Prop :=
      t = { s with
            pfcSum := sum, pfcSkip := skip, pc := s.npc, npc := s.npc + 4#32, prev := .other, free := t.free }
    (imm22 = 0#22 → ∃ t, exec (.sethi 0#5 imm22) s = .next t ∧ ends t 0#32 true) ∧
    (imm22.extractLsb' 16 6 = 0b011111#6 → (s.pfcSkip = true ∨ imm22.extractLsb' 0 16 = signature) →
      ∃ t, exec (.sethi 0#5 imm22) s = .next t ∧ ends t 0#32 false) ∧
    (imm22.extractLsb' 16 6 = 0b011111#6 → s.pfcSkip = false → imm22.extractLsb' 0 16 ≠ signature →
      exec (.sethi 0#5 imm22) s = .next ({ s with pfcSum := 0#32 }.raise .programFlow)) ∧
    (imm22 ≠ 0#22 → imm22.extractLsb' 16 6 ≠ 0b011111#6 →
      ∃ t sum skip free, exec (.sethi 0#5 imm22) s = .next t ∧
        (ends t sum skip ∨ t = { s with pfcSum := sum, pfcSkip := skip, free := free }.raise .programFlow))

/-! ## Integer loads and stores -/

/-- The five single loads and their alternate-space forms (40_load_store.md R205 to R209, R225 to R229; 20_memory.md R105,
R107): aligned and not refused, they load the datum, extended as their name says. -/
def Obligations.SingleLoadsExtend : Prop :=
  ∀ (s : State) (rd rs1 : RegNum) (i : Instr) (asi : Asi) (ea : Word) (forms : MemForms) (size : AccessSize) (value : Word),
    (forms, size, value) ∈
      ([((.ldsb, .ldsba), .byte, (s.readByte asi ea).signExtend 32), ((.ldub, .lduba), .byte, (s.readByte asi ea).zeroExtend 32),
        ((.ldsh, .ldsha), .half, (s.readByte asi ea ++ s.readByte asi (ea + 1#32)).signExtend 32),
        ((.lduh, .lduha), .half, (s.readByte asi ea ++ s.readByte asi (ea + 1#32)).zeroExtend 32),
        ((.ld, .lda), .word, s.readByte asi ea ++ s.readByte asi (ea + 1#32) ++ s.readByte asi (ea + 2#32) ++
          s.readByte asi (ea + 3#32))] : List (MemForms × AccessSize × Word)) →
    Accesses s forms rd rs1 i asi ea → misaligned size ea = false → s.refuses asi ea size .read false = false →
    ∃ t, exec i s = .next t ∧ WritesReg s t s.psr.cwp rd value ∧ OnlyRegs s t ∧ MemKept s t

/-- LDD and LDDA (R210, R230): the word at the lower address into the even register of the pair, an odd rd forced even, r[0]
discarding its word. The pair of rd is rd with bit 0 cleared and rd with bit 0 set (10_state.md R48). -/
def Obligations.DoubleLoadsFillPair : Prop :=
  ∀ (s : State) (rd rs1 : RegNum) (i : Instr) (asi : Asi) (ea : Word),
    ((pairEven rd).toNat = rd.toNat / 2 * 2 ∧ (pairOdd rd).toNat = rd.toNat / 2 * 2 + 1) ∧
    (s.refusesPair asi ea .read = true ↔
      s.refuses asi ea .double .read false = true ∨ s.refuses asi (ea + 4#32) .double .read false = true) ∧
    (Accesses s (.ldd, .ldda) rd rs1 i asi ea → misaligned .double ea = false → s.refusesPair asi ea .read = false →
      ∃ t, exec i s = .next t ∧ WritesPair s t s.psr.cwp rd (s.readWord asi ea) (s.readWord asi (ea + 4#32)) ∧
        OnlyRegs s t ∧ MemKept s t)

/-- The three single stores and their alternate-space forms (R215 to R217, R231 to R233): the low byte, halfword or word of
r[rd], the most significant byte first, at the effective address, and no other byte. -/
def Obligations.SingleStoresWriteBytes : Prop :=
  ∀ (s : State) (rd rs1 : RegNum) (i : Instr) (asi : Asi) (ea : Word) (forms : MemForms) (size : AccessSize) (bs : List Byte),
    s.mem.wf = true →
    (forms, size, bs) ∈
      ([((.stb, .stba), .byte, [(s.reg rd).extractLsb' 0 8]),
        ((.sth, .stha), .half, [(s.reg rd).extractLsb' 8 8, (s.reg rd).extractLsb' 0 8]),
        ((.st, .sta), .word, bigEndian (s.reg rd))] : List (MemForms × AccessSize × List Byte)) →
    Accesses s forms rd rs1 i asi ea → misaligned size ea = false → s.refuses asi ea size .write false = false →
    ∃ t, exec i s = .next t ∧ StoresBytes s t asi ea bs ∧ RegsKept s t ∧ OnlyRegsMem s t

/-- STD and STDA (R218, R234, R236): the two words of the pair, the even register's at the lower address (an odd rd forced even
is the spec's decision D7, log 18). When the memory system refuses the second word, data_access_exception is taken, and at
most the bytes of the first word have changed (20_memory.md R124; whether they have is free, log 16). -/
def Obligations.DoubleStoresWritePair : Prop :=
  ∀ (s : State) (rd rs1 : RegNum) (i : Instr) (asi : Asi) (ea : Word), s.mem.wf = true →
    Accesses s (.std, .stda) rd rs1 i asi ea → misaligned .double ea = false →
    s.refuses asi ea .double .write false = false →
    (s.refuses asi (ea + 4#32) .double .write false = false →
      ∃ t, exec i s = .next t ∧
        StoresBytes s t asi ea (bigEndian (s.reg (pairEven rd)) ++ bigEndian (s.reg (pairOdd rd))) ∧ RegsKept s t ∧
        OnlyRegsMem s t) ∧
    (s.refuses asi (ea + 4#32) .double .write false = true →
      ∃ u, exec i s = .next (u.raise .dataAccess) ∧
        (MemKept s u ∧ u.recent = s.recent ∨ StoresBytes s u asi ea (bigEndian (s.reg (pairEven rd)))) ∧
        u = { s with mem := u.mem, recent := u.recent, free := u.free })

/-- LDSTUB, LDSTUBA, SWAP, SWAPA (R220, R221, R235, R237): the old byte or word into r[rd]; all ones, or the old r[rd], into
memory. -/
def Obligations.AtomicsExchange : Prop :=
  ∀ (s : State) (rd rs1 : RegNum) (i : Instr) (asi : Asi) (ea : Word) (forms : MemForms) (size : AccessSize) (old : Word)
    (bs : List Byte),
    s.mem.wf = true →
    (forms, size, old, bs) ∈
      ([((.ldstub, .ldstuba), .byte, (s.readByte asi ea).zeroExtend 32, [0xFF#8]),
        ((.swap, .swapa), .word, s.readWord asi ea, bigEndian (s.reg rd))] :
        List (MemForms × AccessSize × Word × List Byte)) →
    Accesses s forms rd rs1 i asi ea → misaligned size ea = false → s.refuses asi ea size .read true = false →
    s.refuses asi ea size .write true = false →
    ∃ t, exec i s = .next t ∧ WritesReg s t s.psr.cwp rd old ∧ StoresBytes s t asi ea bs ∧ OnlyRegsMem s t

/-- The traps of integer loads and stores, the first that applies and nothing else (R201, R224, R240; 20_memory.md R110, R122,
R124): an alternate form with i = 1 is illegal in either mode; an alternate form in user mode is privileged; then alignment,
then the memory system's refusal. That an access of two transactions (a doubleword read refused at its second word, an atomic
refused at its write) does nothing but trap is the spec's decision D4, the model's choice (log 16); a doubleword write refused at
its second word is DoubleStoresWritePair's. Misaligned is an address that its size does not divide; the space is 0x0A or 0x0B by S, of
a fetch 0x08 or 0x09 (R101); the memory system refuses a space that is neither one of these four nor supplied by the platform (R103,
its decision D3, log 15), and what one of its rules covers (R122). -/
def Obligations.LoadStoreTrapsInOrder : Prop :=
  ∀ (s : State) (rd rs1 : RegNum) (forms : MemForms) (size : AccessSize) (refused : Asi → Word → Bool),
    s.dataAsi = (if s.psr.s then 0x0B#8 else 0x0A#8) ∧ s.instrAsi = (if s.psr.s then 0x09#8 else 0x08#8) ∧
    (∀ ea, misaligned .byte ea = false ∧ (misaligned .half ea = true ↔ ea.toNat % 2 ≠ 0) ∧
      (misaligned .word ea = true ↔ ea.toNat % 4 ≠ 0) ∧ (misaligned .double ea = true ↔ ea.toNat % 8 ≠ 0)) ∧
    (∀ asi ea kind atomic, s.refuses asi ea size kind atomic = true ↔
      (¬(0x08 ≤ asi.toNat ∧ asi.toNat ≤ 0x0B) ∧ asi ∉ s.asiSpaces) ∨
        ∃ r ∈ s.mexc, r.lo.toNat ≤ ea.toNat ∧ ea.toNat ≤ r.hi.toNat ∧ (∀ x, r.asi = some x → x = asi) ∧
          (∀ x, r.size = some x → x = size) ∧ (∀ x, r.kind = some x → x = kind) ∧ ∀ x, r.atomic = some x → x = atomic) ∧
    ((forms, size, refused) ∈
      ([((.ldsb, .ldsba), .byte, fun sp a => s.refuses sp a .byte .read false),
        ((.ldub, .lduba), .byte, fun sp a => s.refuses sp a .byte .read false),
        ((.ldsh, .ldsha), .half, fun sp a => s.refuses sp a .half .read false),
        ((.lduh, .lduha), .half, fun sp a => s.refuses sp a .half .read false),
        ((.ld, .lda), .word, fun sp a => s.refuses sp a .word .read false),
        ((.ldd, .ldda), .double, fun sp a => s.refuses sp a .double .read false || s.refuses sp (a + 4#32) .double .read false),
        ((.stb, .stba), .byte, fun sp a => s.refuses sp a .byte .write false),
        ((.sth, .stha), .half, fun sp a => s.refuses sp a .half .write false),
        ((.st, .sta), .word, fun sp a => s.refuses sp a .word .write false),
        ((.std, .stda), .double, fun sp a => s.refuses sp a .double .write false),
        ((.ldstub, .ldstuba), .byte, fun sp a => s.refuses sp a .byte .read true || s.refuses sp a .byte .write true),
        ((.swap, .swapa), .word, fun sp a => s.refuses sp a .word .read true || s.refuses sp a .word .write true)] :
        List (MemForms × AccessSize × (Asi → Word → Bool))) →
    (∀ low13, exec (forms.2 rd rs1 (.imm low13)) s = .next (s.raise .illegalInstruction)) ∧
    (∀ asi rs2, s.psr.s = false → exec (forms.2 rd rs1 (.reg asi rs2)) s = .next (s.raise .privilegedInstruction)) ∧
    ∀ i asi ea, Accesses s forms rd rs1 i asi ea →
      (misaligned size ea = true → exec i s = .next (s.raise .notAligned)) ∧
      (misaligned size ea = false → refused asi ea = true → exec i s = .next (s.raise .dataAccess)))

/-! ## Loads and stores of the attached units -/

/-- LDF, LDDF, LDFSR, LDC, LDDC, LDCSR (41_fp_cp_load_store.md R265 to R267, R280 to R282): enabled, aligned, no exception
pending, not refused, they end with the unit's registers loaded, an odd rd of a double forced even (for LDDF R266, for LDDC the
spec's decision D7, R262; the model's choice, log 18). Which bits of
a state register can be written is free (log 29); so is what a unit in exception mode does (R447 item 4, log 30). -/
def Obligations.UnitLoadsFillRegisters : Prop :=
  ∀ (s : State) (rd rs1 : RegNum) (src : Operand2) (u : UnitId) (i : Instr) (ea : Word) (size : AccessSize) (refused : Bool)
    (loaded : CoUnit → CoUnit → Prop),
    ea = s.ea rs1 src →
    (u, i, size, refused, loaded) ∈
      (let sp := s.dataAsi
       let one := s.refuses sp ea .word .read false
       let two := s.refuses sp ea .double .read false || s.refuses sp (ea + 4#32) .double .read false
       let single : CoUnit → CoUnit → Prop := fun x y =>
         y = { x with regs := y.regs } ∧ y.reg rd = s.readWord sp ea ∧ ∀ n, n ≠ rd → y.reg n = x.reg n
       let pair : CoUnit → CoUnit → Prop := fun x y =>
         y = { x with regs := y.regs } ∧ y.reg (pairEven rd) = s.readWord sp ea ∧
           y.reg (pairOdd rd) = s.readWord sp (ea + 4#32) ∧ ∀ n, n ≠ pairEven rd → n ≠ pairOdd rd → y.reg n = x.reg n
       let status : UnitId → CoUnit → CoUnit → Prop := fun u x y =>
         y = { x with status := y.status, cc := ccOfStatus u y.status } ∧
           y.status &&& statusWritable u = s.readWord sp ea &&& statusWritable u ∧
           y.status &&& ~~~statusWritable u = x.status &&& ~~~statusWritable u
       [(.fpu, .ldf rd rs1 src, .word, one, single), (.fpu, .lddf rd rs1 src, .double, two, pair),
        (.fpu, .ldfsr rs1 src, .word, one, status .fpu), (.cp, .ldc rd rs1 src, .word, one, single),
        (.cp, .lddc rd rs1 src, .double, two, pair), (.cp, .ldcsr rs1 src, .word, one, status .cp)]) →
    s.unitDisabled u = false → (s.unit u).excPending = false → misaligned size ea = false → refused = false →
    ∃ t, exec i s = .next t ∧ OnlyUnit s t u ∧ t.prev = .other ∧ MemKept s t ∧
      ((s.unit u).excMode = false → t.free = s.free ∧ loaded (s.unit u) (t.unit u))

/-- STF, STDF, STFSR, STC, STDC, STCSR (R270 to R272, R283 to R285): they end with the word or pair of the unit in memory, no
other byte changed, and the unit as it was; an odd rd of STDF and STDC is forced even (the spec's decision D7, the model's choice,
log 18). In exception mode the words and the unit are free (R447 item 4, log 30). The word of STFSR (STCSR) holds the condition
codes shown on FCC (CCC), and LDFSR (LDCSR) sets them from its word (R264, R267, R272, R282; the field's place is free, log 29).
When the memory system refuses the second word of a pair or of a queue entry (STDFQ, STDCQ), data_access_exception is taken, the
unit is as it was, and at most the bytes of the first word have changed (20_memory.md R124; the spec's decision D4, whether they
have is free, log 16). That the first word of a queue entry is its address is PRESUMED, and that a unit outside exception mode gives
its front entry too is the model's choice (log 31). -/
def Obligations.UnitStoresWriteBytes : Prop :=
  ∀ (s : State) (rs1 : RegNum) (src : Operand2) (u : UnitId), s.mem.wf = true →
    let ea := s.ea rs1 src
    let x := s.unit u
    let second : Bool := s.refuses s.dataAsi (ea + 4#32) .double .write false
    let torn (i : Instr) (first : Word → Prop) : Prop :=
      ∃ (v : State) (w : Word), exec i s = .next (v.raise .dataAccess) ∧ first w ∧
        (MemKept s v ∧ v.recent = s.recent ∨ StoresBytes s v s.dataAsi ea (bigEndian w)) ∧
        v = { s with mem := v.mem, recent := v.recent, free := v.free }
    (∀ (rd : RegNum) (i : Instr) (size : AccessSize) (words : List Word),
      (u, i, size, words) ∈
        [(.fpu, .stf rd rs1 src, .word, [x.reg rd]), (.fpu, .stdf rd rs1 src, .double, [x.reg (pairEven rd), x.reg (pairOdd rd)]),
         (.fpu, .stfsr rs1 src, .word, [x.statusWord u]), (.cp, .stc rd rs1 src, .word, [x.reg rd]),
         (.cp, .stdc rd rs1 src, .double, [x.reg (pairEven rd), x.reg (pairOdd rd)]),
         (.cp, .stcsr rs1 src, .word, [x.statusWord u])] →
      s.unitDisabled u = false → x.excPending = false → misaligned size ea = false →
      s.refuses s.dataAsi ea size .write false = false →
      (size = .word ∨ second = false →
        ∃ t ws, exec i s = .next t ∧ ws.length = words.length ∧ StoresBytes s t s.dataAsi ea (ws.flatMap bigEndian) ∧
          OnlyUnitMem s t u ∧ (x.excMode = false → ws = words ∧ t.unit u = x ∧ t.free = s.free)) ∧
      (size = .double → second = true → torn i fun w => x.excMode = false → words.head? = some w)) ∧
    (∀ i : Instr, (u, i) ∈ [(.fpu, .stdfq rs1 src), (.cp, .stdcq rs1 src)] →
      s.psr.s = true → s.unitDisabled u = false → x.excPending = false → misaligned .double ea = false →
      s.refuses s.dataAsi ea .double .write false = false → second = true →
      torn i fun w => ∀ e rest, x.queue = e :: rest → w = e.addr) ∧
    ccOfStatus u (x.statusWord u) = x.cc ∧ ∀ w : Word, (x.setStatus u w).cc = ccOfStatus u w

/-- STDFQ and STDCQ (R273, R286; privileged, R261): the front entry of the queue, its address word then its instruction word
(the order is PRESUMED, log 31), leaves the queue for memory; the unit leaves exception mode with its last entry
(60_exceptions.md R556). With an empty queue two free words are stored (log 31).
That a unit outside exception mode stores and removes its front entry in the same way, which the spec leaves open
(91_not_in_source.md N6, 93_implementation_defined.md U10), is the model's choice (log 31). -/
def Obligations.QueueStoresPopFront : Prop :=
  ∀ (s : State) (rs1 : RegNum) (src : Operand2) (u : UnitId) (i : Instr),
    s.mem.wf = true → (u, i) ∈ [(.fpu, .stdfq rs1 src), (.cp, .stdcq rs1 src)] →
    s.psr.s = true → s.unitDisabled u = false → (s.unit u).excPending = false → misaligned .double (s.ea rs1 src) = false →
    s.refuses s.dataAsi (s.ea rs1 src) .double .write false = false →
    s.refuses s.dataAsi (s.ea rs1 src + 4#32) .double .write false = false →
    ∃ t w0 w1, exec i s = .next t ∧ StoresBytes s t s.dataAsi (s.ea rs1 src) (bigEndian w0 ++ bigEndian w1) ∧
      OnlyUnitMem s t u ∧
      (∀ e rest, (s.unit u).queue = e :: rest →
        w0 = e.addr ∧ w1 = e.instr ∧
          t.unit u = { s.unit u with queue := rest, excMode := (s.unit u).excMode && decide (rest ≠ []) }) ∧
      ((s.unit u).queue = [] → t.unit u = s.unit u)

/-- The traps of the loads and stores of a unit, the first that holds and nothing else (R261): privilege of the queue stores,
the unit disabled or absent, alignment, its pending exception, the memory system's refusal. That a load of two words refused at its
second changes nothing in the unit is the spec's decision D4 (20_memory.md R124), the model's choice (log 16); a store refused at
its second word is UnitStoresWriteBytes'. -/
def Obligations.UnitAccessTrapsInOrder : Prop :=
  ∀ (s : State) (rd rs1 : RegNum) (src : Operand2) (u : UnitId) (i : Instr) (privileged : Bool) (size : AccessSize)
    (kind : AccessKind) (trap : Trap),
    (u, i, privileged, size, kind) ∈
      [(.fpu, .ldf rd rs1 src, false, .word, .read), (.fpu, .lddf rd rs1 src, false, .double, .read),
       (.fpu, .ldfsr rs1 src, false, .word, .read), (.fpu, .stf rd rs1 src, false, .word, .write),
       (.fpu, .stdf rd rs1 src, false, .double, .write), (.fpu, .stfsr rs1 src, false, .word, .write),
       (.fpu, .stdfq rs1 src, true, .double, .write), (.cp, .ldc rd rs1 src, false, .word, .read),
       (.cp, .lddc rd rs1 src, false, .double, .read), (.cp, .ldcsr rs1 src, false, .word, .read),
       (.cp, .stc rd rs1 src, false, .word, .write), (.cp, .stdc rd rs1 src, false, .double, .write),
       (.cp, .stcsr rs1 src, false, .word, .write), (.cp, .stdcq rs1 src, true, .double, .write)] →
    firstTrap
      [(privileged && !s.psr.s, .privilegedInstruction),
       (s.unitDisabled u, if u = .fpu then .fpDisabled else .cpDisabled),
       (misaligned size (s.ea rs1 src), .notAligned),
       ((s.unit u).excPending, if u = .fpu then .fpException else .cpException),
       (s.refuses s.dataAsi (s.ea rs1 src) size kind false ||
         (size == .double && kind == .read && s.refuses s.dataAsi (s.ea rs1 src + 4#32) size kind false), .dataAccess)] =
      some trap →
    exec i s = .next (s.raise trap)

/-! ## Control transfer -/

/-- The sixteen Bicc (43_control_transfer.md R361 to R363, R365, R370, R371): the delayed transfer to PC + 4 * disp22 if the
condition holds, and the annulment of the delay instruction by the a bit. Right after another conditional branch the target is
a free word address (R365, log 19). The base of the displacement is PC, or PC + 4, by the parameter ctiBase (log 4), of FBfcc, CBccc
and CALL too; the conditions are PRESUMED (log 11). -/
def Obligations.IntegerBranchesTransfer : Prop :=
  ∀ (s : State) (a : Bool) (disp22 : BitVec 22),
    s.ctiBase = (if s.params.ctiBaseFour then 4#32 else 0#32) ∧ ∀ row ∈ iccConditions,
    let taken := row.2.2 s.psr.icc
    let always : Prop := row.1 a disp22 = .ba a disp22
    ∃ t, exec (row.1 a disp22) s = .next t ∧
      t = { s with pc := s.npc, npc := t.npc, annul := t.annul, prev := t.prev, free := t.free } ∧
      (t.annul = true ↔ a = true ∧ (always ∨ taken = false)) ∧
      (always → t.prev = .other) ∧ (¬always → t.prev = .condBranch) ∧
      (s.prev ≠ .condBranch → t.free = s.free ∧
        t.npc = if taken then s.pc + s.ctiBase + BitVec.ofInt 32 (4 * disp22.toInt) else s.npc + 4#32) ∧
      (s.prev = .condBranch → wordAligned t.npc)

/-- The sixteen FBfcc and the sixteen CBccc (R374 to R377): enabled and no exception pending, as Bicc on the unit's condition
codes, right after a compare (a CPop) too: they are those of the latest compare (45_fpop_cpop.md R449, 70_reset_and_hazards.md R643;
R378 would leave that branch unspecified: where the model's parameter earlyBranchOpen says so the codes it tests are free, log 33). -/
def Obligations.UnitBranchesTransfer : Prop :=
  ∀ (s : State) (u : UnitId) (a : Bool) (disp22 : BitVec 22), ∀ row ∈ unitConditions,
    s.unitDisabled u = false → (s.unit u).excPending = false →
    let always : Prop := row.1 = .fba
    let early : Prop := s.params.earlyBranchOpen = true ∧ s.prev = (match u with | .fpu => .fpCompare | .cp => .cpOperate)
    ∃ t taken, exec (unitBranch u row a disp22) s = .next t ∧
      t = { s with pc := s.npc, npc := t.npc, annul := t.annul, prev := t.prev, free := t.free } ∧
      (t.annul = true ↔ a = true ∧ (always ∨ taken = false)) ∧
      (always → taken = true ∧ t.prev = .other) ∧ (¬always → t.prev = .condBranch) ∧ (row.1 = .fbn → taken = false) ∧
      (¬early → taken = row.2.2.contains (s.unit u).cc.toNat ∧ (s.prev ≠ .condBranch → t.free = s.free)) ∧
      (s.prev ≠ .condBranch →
        t.npc = if taken then s.pc + s.ctiBase + BitVec.ofInt 32 (4 * disp22.toInt) else s.npc + 4#32) ∧
      (s.prev = .condBranch → wordAligned t.npc)

/-- CALL (R380): its own address into r[15], the delayed transfer to PC + 4 * disp30 (or 4 more, by the parameter ctiBase, log 4). JMPL (R384): its own
address into r[rd], the delayed transfer to r[rs1] + operand2, both read before; mem_address_not_aligned, and nothing else, if
that is no word address. Right after a conditional branch the target of either is a free word address (R365, log 19). -/
def Obligations.CallAndJmplLink : Prop :=
  ∀ (s : State) (rd rs1 : RegNum) (src : Operand2) (disp30 : BitVec 30),
    let links (t : State) (r : RegNum) (target : Word) : Prop :=
      WritesReg s t s.psr.cwp r s.pc ∧ MemKept s t ∧
        t = { s with
              globals := t.globals, windows := t.windows, pc := s.npc, npc := t.npc, prev := .other, free := t.free } ∧
        (s.prev ≠ .condBranch → t.free = s.free ∧ t.npc = target) ∧ (s.prev = .condBranch → wordAligned t.npc)
    (∃ t, exec (.call disp30) s = .next t ∧ links t 15#5 (s.pc + s.ctiBase + BitVec.ofInt 32 (4 * disp30.toInt))) ∧
    ((s.reg rs1 + s.operand2 src).toNat % 4 = 0 →
      ∃ t, exec (.jmpl rd rs1 src) s = .next t ∧ links t rd (s.reg rs1 + s.operand2 src)) ∧
    ((s.reg rs1 + s.operand2 src).toNat % 4 ≠ 0 → exec (.jmpl rd rs1 src) s = .next (s.raise .notAligned))

/-- RETT (R388): with traps disabled, in supervisor mode, into a valid window and to a word address, it enables traps, restores
S from PS, goes one window up and transfers, and these fields stand in a write of the PSR that is still late too (log 22); every
earlier store is seen by the fetches after it, so the record of the newest stores is empty (20_memory.md R142, the spec's decision
D6; the record is the model's choice, log 17). Otherwise it traps, in this order: traps enabled, user mode, invalid window, no word
address (the order with ET = 0 is the spec's decision D10, log 20), the last three ending in error mode. -/
def Obligations.RettReturnsOrTraps : Prop :=
  ∀ (s : State) (rs1 : RegNum) (src : Operand2),
    let target := s.reg rs1 + s.operand2 src
    let invalid := s.wim.getLsbD ((s.psr.cwp + 1#3).toNat)
    (s.psr.et = false → s.psr.s = true → invalid = false → target.toNat % 4 = 0 →
      ∃ t, exec (.rett rs1 src) s = .next t ∧
        t = { s with
              psr := { s.psr with et := true, s := s.psr.ps, cwp := s.psr.cwp + 1#3 },
              late := s.late.map (LateWrite.afterPsr fun p => { p with et := true, s := s.psr.ps, cwp := s.psr.cwp + 1#3 }),
              pc := s.npc, npc := t.npc,
              prev := .other, pfcSkip := s.pfcSkip || s.pins.flowEnabled, recent := [], free := t.free } ∧
        (s.prev ≠ .condBranch → t.npc = target) ∧ (s.prev = .condBranch → wordAligned t.npc)) ∧
    (s.psr.et = true → exec (.rett rs1 src) s = .next (s.raise .illegalInstruction)) ∧
    (s.psr.et = false → s.psr.s = false →
      exec (.rett rs1 src) s = .next (s.raise .privilegedInstruction) ∧ (s.raise .privilegedInstruction).mode = .error) ∧
    (s.psr.et = false → s.psr.s = true → invalid = true →
      exec (.rett rs1 src) s = .next (s.raise .windowUnderflow) ∧ (s.raise .windowUnderflow).mode = .error) ∧
    (s.psr.et = false → s.psr.s = true → invalid = false → target.toNat % 4 ≠ 0 →
      exec (.rett rs1 src) s = .next (s.raise .notAligned) ∧ (s.raise .notAligned).mode = .error)

/-- SAVE and RESTORE (R392, R393): the window below or above, the sum of the old window's operands into its r[rd]; if WIM marks
that window, window_overflow or window_underflow and nothing else. The window stands in a write of the PSR that is still late too
(log 22). -/
def Obligations.SaveAndRestoreMoveWindow : Prop :=
  ∀ (s : State) (rd rs1 : RegNum) (src : Operand2) (i : Instr) (cwp : Window) (trap : Trap),
    (i, cwp, trap) ∈
      [(.save rd rs1 src, s.psr.cwp - 1#3, .windowOverflow), (.restore rd rs1 src, s.psr.cwp + 1#3, .windowUnderflow)] →
    (s.wim.getLsbD cwp.toNat = false →
      ∃ t, exec i s = .next t ∧ WritesReg s t cwp rd (s.reg rs1 + s.operand2 src) ∧ MemKept s t ∧
        t = { s with
              globals := t.globals, windows := t.windows, psr := { s.psr with cwp := cwp },
              late := s.late.map (LateWrite.afterPsr fun p => { p with cwp := cwp }), pc := s.npc, npc := s.npc + 4#32, prev := .other }) ∧
    (s.wim.getLsbD cwp.toNat = true → exec i s = .next (s.raise trap))

/-- The sixteen Ticc (R396, R371; conditions PRESUMED, log 11): nothing when the condition does not hold; when it does, the trap
of type 128 plus the seven low bits of r[rs1] + operand2, which is the instruction's effect. -/
def Obligations.TrapInstructionsTest : Prop :=
  ∀ (s : State) (rs1 : RegNum) (src : Operand2), ∀ row ∈ iccConditions,
    (row.2.2 s.psr.icc = false →
      exec (row.2.1 rs1 src) s = .next { s with pc := s.npc, npc := s.npc + 4#32, prev := .other }) ∧
    (row.2.2 s.psr.icc = true → ∃ t n, exec (row.2.1 rs1 src) s = .next t ∧ t = s.raise (.trapInstruction n) ∧
      t.tbr.tt.toNat = 128 + (s.reg rs1 + s.operand2 src).toNat % 128)

/-! ## Control registers -/

/-- RDY (44_control_registers.md R421): every word with its op and op3 is RDY, whatever its other bits; in either mode it reads
Y. -/
def Obligations.ReadYInEitherMode : Prop :=
  (∀ w : Word, opField w = 0b10#2 → op3Field w = 0b101000#6 → decode w = .rdy (rdField w)) ∧
    ∀ (s : State) (rd : RegNum), ∃ t, exec (.rdy rd) s = .next t ∧ WritesValue s t s.psr.cwp rd s.y ∧ OnlyRegs s t ∧ MemKept s t

/-- RDPSR, RDWIM, RDTBR (R420, R422 to R424; 10_state.md R56, R60 to R62, R70, R75): in supervisor mode the register's layout, its
constant and reserved bits included (the reserved bits of the PSR read 0 by the spec's decision D2, log 14); in user mode
privileged_instruction and nothing else. Of RDY, whose result is ReadYInEitherMode's, r[rd] and no other register counts as written
after it (60_exceptions.md R585; log 37). -/
def Obligations.ControlRegistersReadByLayout : Prop :=
  ∀ (s : State) (rd : RegNum) (i : Instr) (v : Word),
    (∃ t, exec (.rdy rd) s = .next t ∧ CountsWritten s t [phys s.psr.cwp rd]) ∧
    ((i, v) ∈
      [(.rdpsr rd, BitVec.ofNat 32 (0x11000000 + s.psr.icc.n.toNat * 2 ^ 23 + s.psr.icc.z.toNat * 2 ^ 22 +
          s.psr.icc.v.toNat * 2 ^ 21 + s.psr.icc.c.toNat * 2 ^ 20 + s.psr.ec.toNat * 2 ^ 13 + s.psr.ef.toNat * 2 ^ 12 +
          s.psr.pil.toNat * 2 ^ 8 + s.psr.s.toNat * 2 ^ 7 + s.psr.ps.toNat * 2 ^ 6 + s.psr.et.toNat * 2 ^ 5 +
          s.psr.cwp.toNat)),
       (.rdwim rd, BitVec.ofNat 32 s.wim.toNat),
       (.rdtbr rd, BitVec.ofNat 32 (s.tbr.tba.toNat * 2 ^ 12 + s.tbr.tt.toNat * 2 ^ 4))] →
    (s.psr.s = true → ∃ t, exec i s = .next t ∧ WritesReg s t s.psr.cwp rd v ∧ OnlyRegs s t ∧ MemKept s t) ∧
    (s.psr.s = false → exec i s = .next (s.raise .privilegedInstruction)))

/-- WRY in either mode, WRWIM and WRTBR in supervisor mode (R426, R427, R432, R433): the exclusive or of the operands (PRESUMED,
log 10) into Y, into the eight bits of the WIM, into TBA; tt stays. Written, the register counts as such (10_state.md R89; log 37).
The write is seen at once, or, by the parameter wrDelay, one to three instructions later (R435, R647; default 0 by the spec's
decision D12, log 22): a late write waits one boundary after the other until none is left to wait for, and a trap sees all of
them (the model's choice, log 22). In user mode WRWIM and WRTBR take privileged_instruction and nothing else (R420). -/
def Obligations.ControlRegistersWrite : Prop :=
  ∀ (s : State) (rs1 : RegNum) (src : Operand2),
    let v := s.reg rs1 ^^^ s.operand2 src
    let seen : State → ControlWrite → State := fun t write =>
      match write with
      | .y w => { t with y := w, written := { t.written with y := true } }
      | .psr p => { t with psr := p }
      | .wim w => { t with wim := BitVec.ofNat 8 w.toNat, written := { t.written with wim := true } }
      | .tbr w =>
        { t with tbr := { t.tbr with tba := BitVec.ofNat 20 (w.toNat / 4096) }, written := { t.written with tba := true } }
    let writes (i : Instr) (write : ControlWrite) : Prop :=
      ∃ u t, exec i s = .next t ∧ t = { u with pc := s.npc, npc := s.npc + 4#32, prev := .other } ∧
        (s.params.wrDelay = 0 → u = seen s write) ∧
        (s.params.wrDelay ≠ 0 → u = { s with late := s.late ++ [{ left := s.params.wrDelay.val, write := write }] })
    writes (.wry rs1 src) (.y v) ∧
    (s.psr.s = true → writes (.wrwim rs1 src) (.wim v) ∧ writes (.wrtbr rs1 src) (.tbr v)) ∧
    (s.psr.s = false → exec (.wrwim rs1 src) s = .next (s.raise .privilegedInstruction) ∧
      exec (.wrtbr rs1 src) s = .next (s.raise .privilegedInstruction)) ∧
    (s.late = [] → s.tickLate = s ∧ s.settleLate = s) ∧
    ∀ l rest, s.late = l :: rest →
      (l.left = 0 → s.tickLate = { seen s l.write with late := rest }.tickLate) ∧
      (l.left ≠ 0 → s.tickLate = { s with late := s.late.map fun l => { l with left := l.left - 1 } }) ∧
      s.settleLate = { seen s l.write with late := rest }.settleLate

/-- WRPSR (R426, R431): in supervisor mode and for a CWP below 8 (D11, log 21) every field but impl, ver and the reserved ones
(exclusive or PRESUMED, log 10), seen at once or, by the parameter wrDelay, later (R435; log 22). A CWP of 8 or more is
illegal_instruction in either mode; user mode is privileged_instruction. A later instruction that changes fields of the PSR changes
them in a write of the PSR that is still late and leaves every other late write; a later write of Y makes void the late writes of Y
and no other (70_reset_and_hazards.md R640; the model's choice, log 22). -/
def Obligations.WritePsrSetsFields : Prop :=
  ∀ (s : State) (rs1 : RegNum) (src : Operand2),
    (∀ (f : Psr → Psr) (k : Nat) (p : Psr) (x : Word),
      LateWrite.afterPsr f { left := k, write := .psr p } = { left := k, write := .psr (f p) } ∧
        LateWrite.survivesY { left := k, write := .psr p } = true ∧
        LateWrite.survivesY { left := k, write := .y x } = false ∧
        LateWrite.survivesY { left := k, write := .wim x } = true ∧ LateWrite.survivesY { left := k, write := .tbr x } = true ∧
        ∀ write ∈ [ControlWrite.y x, .wim x, .tbr x],
          LateWrite.afterPsr f { left := k, write := write } = { left := k, write := write }) ∧
    let v := s.reg rs1 ^^^ s.operand2 src
    (v.toNat % 32 < 8 → s.psr.s = true →
      ∃ (u t : State) (p : Psr), exec (.wrpsr rs1 src) s = .next t ∧
        t = { u with pc := s.npc, npc := s.npc + 4#32, prev := .other } ∧
        (s.params.wrDelay = 0 → u = { s with psr := p }) ∧
        (s.params.wrDelay ≠ 0 → u = { s with late := s.late ++ [{ left := s.params.wrDelay.val, write := .psr p }] }) ∧
        p.icc.n = v.getLsbD 23 ∧ p.icc.z = v.getLsbD 22 ∧ p.icc.v = v.getLsbD 21 ∧ p.icc.c = v.getLsbD 20 ∧
        p.ec = v.getLsbD 13 ∧ p.ef = v.getLsbD 12 ∧ p.pil.toNat = v.toNat / 256 % 16 ∧ p.s = v.getLsbD 7 ∧
        p.ps = v.getLsbD 6 ∧ p.et = v.getLsbD 5 ∧ p.cwp.toNat = v.toNat % 8) ∧
    (8 ≤ v.toNat % 32 → exec (.wrpsr rs1 src) s = .next (s.raise .illegalInstruction)) ∧
    (v.toNat % 32 < 8 → s.psr.s = false → exec (.wrpsr rs1 src) s = .next (s.raise .privilegedInstruction))

/-! ## Floating-point-operate and coprocessor-operate instructions -/

/-- Every FPop, the reserved opf values among them, enabled and with no exception pending, is launched (45_fpop_cpop.md R441,
R447, R482): the integer unit goes on, and nothing changes but the FPU. -/
def Obligations.FpopsLeaveIntegerUnit : Prop :=
  ∀ (s : State) (rd rs1 : RegNum) (opf : BitVec 9) (rs2 : RegNum), s.unitDisabled .fpu = false → s.fpu.excPending = false →
    ∀ i ∈ fpOperates rd rs1 opf rs2, ∃ t, exec i s = .next t ∧ OnlyUnit s t .fpu ∧ MemKept s t ∧
      (t.prev = .fpCompare ↔ i ∈ (fpComparisons rs1 rs2).map Prod.fst)

/-- FMOVs, FNEGs, FABSs (R450 to R452): the word of f[rs2] into f[rd], with the sign as it was, inverted, or cleared; no other f
register changes. These effects are PRESUMED, as the spec marks them (log 28), and so is that FMOVs raises no exception; the
others may (free, log 28), and f[rd] is then free. That the result stands in the very next state is the model's choice (the FPop
completes at its launch, R447 item 1; log 27). -/
def Obligations.FpMovesCopyBits : Prop :=
  ∀ (s : State) (rd rs2 : RegNum), s.unitDisabled .fpu = false → s.fpu.excPending = false → s.fpu.excMode = false →
    ∀ row ∈ fpMoves rd rs2, ∃ t, exec row.1 s = .next t ∧ OnlyUnit s t .fpu ∧ AcceptedOrPending s t ∧
      (t.fpu.excPending = false → t.fpu.reg rd = row.2 (s.fpu.reg rs2)) ∧
      (row.1 = .fmovs rd rs2 → t.fpu.excPending = false) ∧ (∀ n, n ≠ rd → t.fpu.reg n = s.fpu.reg n) ∧
      t.fpu.cc = s.fpu.cc

/-- The FPops of one operand (R453 to R455, R468 to R479), the registers fit for their operands: the pattern of the result
where the operands determine it, unless the FPU has raised an exception; no register outside the destination changes. The
arithmetic is PRESUMED IEEE 754 (R480, log 28). An operand is one, two or four registers, the most significant word in the lowest
(R443 to R445), its number even for a double and a multiple of 4 for an extended operand (R446, of SPARC in general). That the result or the exception stands in the very next state is the model's
choice (the FPop completes at its launch, R447 item 1; log 27). -/
def Obligations.FpUnariesDeliverResult : Prop :=
  ∀ (s : State) (rd rs2 : RegNum) (i : Instr) (src dst : FpFormat) (f : FpVal → Option FpVal),
    (∀ (x : CoUnit) (n : RegNum),
      (x.operand .int n).toNat = (x.reg n).toNat ∧ (x.operand .single n).toNat = (x.reg n).toNat ∧
        (x.operand .double n).toNat = (x.reg n).toNat * 2 ^ 32 + (x.reg (n + 1#5)).toNat ∧
        x.operand .extended n = x.reg n ++ x.reg (n + 1#5) ++ x.reg (n + 2#5) ++ x.reg (n + 3#5) ∧
        FpFormat.int.fits n = true ∧ FpFormat.single.fits n = true ∧ (FpFormat.double.fits n = true ↔ n.toNat % 2 = 0) ∧
        (FpFormat.extended.fits n = true ↔ n.toNat % 4 = 0)) ∧
    ((i, src, dst, f) ∈ fpUnaries rd rs2 → s.unitDisabled .fpu = false → s.fpu.excPending = false → s.fpu.excMode = false →
      src.fits rs2 = true → dst.fits rd = true →
      ∃ t junk, exec i s = .next t ∧ OnlyUnit s t .fpu ∧ AcceptedOrPending s t ∧
        (∀ x z p, t.fpu.excPending = false → src.decode (s.fpu.operand src rs2) = some x → f x = some z →
          dst.encode junk z = some p → t.fpu.operand dst rd = p) ∧
        (∀ n, outsideOperand dst rd n → t.fpu.reg n = s.fpu.reg n) ∧ t.fpu.cc = s.fpu.cc)

/-- The FPops of two operands (R456 to R467), in the same way (PRESUMED arithmetic, log 28; completion at launch the model's
choice, R447 item 1, log 27). -/
def Obligations.FpBinariesDeliverResult : Prop :=
  ∀ (s : State) (rd rs1 rs2 : RegNum) (i : Instr) (format : FpFormat) (f : FpVal → FpVal → Option FpVal),
    (i, format, f) ∈ fpBinaries rd rs1 rs2 → s.unitDisabled .fpu = false → s.fpu.excPending = false →
    s.fpu.excMode = false → format.fits rs1 = true → format.fits rs2 = true → format.fits rd = true →
    ∃ t junk, exec i s = .next t ∧ OnlyUnit s t .fpu ∧ AcceptedOrPending s t ∧
      (∀ x y z p, t.fpu.excPending = false → format.decode (s.fpu.operand format rs1) = some x →
        format.decode (s.fpu.operand format rs2) = some y → f x y = some z → format.encode junk z = some p →
        t.fpu.operand format rd = p) ∧
      (∀ n, outsideOperand format rd n → t.fpu.reg n = s.fpu.reg n) ∧ t.fpu.cc = s.fpu.cc

/-- The six compares (R483 to R488): no f register changes; unless the FPU has raised an exception, the condition codes say
equal, less, greater or unordered (43_control_transfer.md R375; meanings PRESUMED, log 12) for all operands that have a class
(R443 to R445): unordered for a NaN of either kind, the order of the rational numbers for finite ones, an infinity beyond every
finite number. That the codes or the exception stand in the very next state is the model's choice (R447 item 1; log 27). -/
def Obligations.FpComparesSetCodes : Prop :=
  ∀ (s : State) (rs1 rs2 : RegNum) (i : Instr) (format : FpFormat),
    (i, format) ∈ fpComparisons rs1 rs2 → s.unitDisabled .fpu = false → s.fpu.excPending = false → s.fpu.excMode = false →
    format.fits rs1 = true → format.fits rs2 = true →
    ∃ t, exec i s = .next t ∧ OnlyUnit s t .fpu ∧ AcceptedOrPending s t ∧ t.fpu.regs = s.fpu.regs ∧ t.prev = .fpCompare ∧
      ∀ x y, t.fpu.excPending = false → format.decode (s.fpu.operand format rs1) = some x →
        format.decode (s.fpu.operand format rs2) = some y →
        (∀ b, x = .nan b ∨ y = .nan b → t.fpu.cc = 3#2) ∧
        (∀ a b, x.rat = some a → y.rat = some b → t.fpu.cc = if a = b then 0#2 else if a < b then 1#2 else 2#2) ∧
        (∀ a b, x = .inf a → y = .inf b → t.fpu.cc = if a = b then 0#2 else if a then 1#2 else 2#2) ∧
        (∀ a b, x = .inf a → y.rat = some b → t.fpu.cc = if a then 1#2 else 2#2) ∧
        ∀ a b, x.rat = some a → y = .inf b → t.fpu.cc = if b then 2#2 else 1#2

/-- The operations on data are exact (the model's IEEE 754, R480, log 28): what they deliver is the sum, difference, product,
quotient or root of the rational numbers the data stand for; and they do deliver it, a sum or difference when it is not zero (the
sign of a zero is the rounding mode's), a quotient when its divisor is not zero and it is an integer times a power of two, a root
when it is rational, a product always. -/
def Obligations.FpOperationsAreExact : Prop :=
  ∀ (x y : FpVal) (a b : ℚ), x.rat = some a → y.rat = some b →
    (∀ z, (x.add y = some z → z.rat = some (a + b)) ∧ (x.sub y = some z → z.rat = some (a - b)) ∧
      (x.mul y = some z → z.rat = some (a * b)) ∧ (x.div y = some z → b ≠ 0 ∧ z.rat = some (a / b)) ∧
      (x.sqrt = some z → ∃ r : ℚ, z.rat = some r ∧ 0 ≤ r ∧ r * r = a)) ∧
    (a + b ≠ 0 → ∃ z, x.add y = some z) ∧ (a - b ≠ 0 → ∃ z, x.sub y = some z) ∧ (∃ z, x.mul y = some z) ∧
    (∀ n k : ℤ, b ≠ 0 → a / b = n * 2 ^ k → ∃ z, x.div y = some z) ∧ (∀ r : ℚ, r * r = a → ∃ z, x.sqrt = some z)

/-- A pattern of a single, double or extended operand stands for what Tables 2 and 3 give its sign, exponent and fraction (R443 to
R445), one of an integer for its two's complement; an extended pattern that no row of Table 3 covers stands for nothing (the model's
choice, log 28). What the model encodes (log 28): a datum encoded in a floating-point format decodes to the same number with its sign,
an infinity to itself, a number encoded as an integer is truncated toward zero (R471 to R473); a number is encoded whenever some
pattern of the format stands for it, as an integer whenever it is in range once truncated. -/
def Obligations.FpPatternsKeepValue : Prop :=
  (∀ x : BitVec 128,
    (∃ v, FpFormat.single.decode x = some v ∧ Table2 v (x.getLsbD 31) (x.toNat / 2 ^ 23 % 2 ^ 8) (x.toNat % 2 ^ 23) 23 255 127) ∧
      (∃ v, FpFormat.double.decode x = some v ∧
        Table2 v (x.getLsbD 63) (x.toNat / 2 ^ 52 % 2 ^ 11) (x.toNat % 2 ^ 52) 52 2047 1023) ∧
      Table3 (FpFormat.extended.decode x) (x.getLsbD 127) (x.toNat / 2 ^ 112 % 2 ^ 15) (x.toNat / 2 ^ 32 % 2 ^ 63) (x.getLsbD 95) ∧
      ∃ v, FpFormat.int.decode x = some v ∧ v.rat = some ((x.extractLsb' 0 32).toInt : ℚ)) ∧
  ∀ (format : FpFormat) (junk : BitVec 128),
    (∀ neg, format ≠ .int → ∃ p, format.encode junk (.inf neg) = some p ∧ format.decode p = some (.inf neg)) ∧
    ∀ (v : FpVal) (neg : Bool) (q : ℚ), v.IsNumber neg q →
      let truncated : ℤ := if q < 0 then ⌈q⌉ else ⌊q⌋
      (∀ p, format.encode junk v = some p →
        (format ≠ .int → ∃ v', format.decode p = some v' ∧ v'.IsNumber neg q) ∧
        (format = .int → (p.extractLsb' 0 32).toInt = truncated)) ∧
      (∀ p v', format ≠ .int → format.decode p = some v' → v'.rat = some q → ∃ p', format.encode junk v = some p') ∧
      (format = .int → -2 ^ 31 ≤ truncated → truncated < 2 ^ 31 → ∃ p, format.encode junk v = some p)

/-- A reserved opf (R482) raises no trap of its own: the FPU has an exception pending, with the word and its address at the end
of its queue, and no f register changes. That the exception is pending in the very next state, with the registers and the codes as
they were, is the model's choice (the FPop completes at its launch, R447 item 1; log 27). -/
def Obligations.ReservedFpopsLeaveException : Prop :=
  ∀ (s : State) (rd rs1 : RegNum) (opf : BitVec 9) (rs2 : RegNum), s.unitDisabled .fpu = false → s.fpu.excPending = false →
    s.fpu.excMode = false → ∀ i ∈ fpReservedForms rd rs1 opf rs2, ∃ t, exec i s = .next t ∧ OnlyUnit s t .fpu ∧
      t.fpu.excPending = true ∧ t.fpu.queue = s.fpu.queue ++ [{ addr := s.pc, instr := s.ir }] ∧ t.fpu.regs = s.fpu.regs ∧
      t.fpu.cc = s.fpu.cc

/-- CPop1 and CPop2 (R491, R492), enabled and with no exception pending, end in the integer unit like a NOP; what they do in the
coprocessor is its designer's, and nothing is said of it (log 32). -/
def Obligations.CpopsLeaveIntegerUnit : Prop :=
  ∀ (s : State) (rd rs1 : RegNum) (opc : BitVec 9) (rs2 : RegNum), s.unitDisabled .cp = false → s.cp.excPending = false →
    ∀ i ∈ cpOperates rd rs1 opc rs2, ∃ t, exec i s = .next t ∧ OnlyUnit s t .cp ∧ t.prev = .cpOperate ∧ MemKept s t

/-- The traps of FPops, FBfcc, CPops and CBccc, the first that holds and nothing else (R441, R491; 43_control_transfer.md R374,
R376; 60_exceptions.md R554 to R557): the unit disabled or absent, then its pending exception. -/
def Obligations.OperateTrapsInOrder : Prop :=
  ∀ (s : State) (rd rs1 : RegNum) (opf : BitVec 9) (rs2 : RegNum) (a : Bool) (disp22 : BitVec 22) (u : UnitId) (i : Instr),
    (s.unitDisabled .fpu = true ↔ s.psr.ef = false ∨ s.pins.fpuPresent = false) ∧
    (s.unitDisabled .cp = true ↔ s.psr.ec = false ∨ s.pins.cpPresent = false) ∧
    (((u = .fpu ∧ i ∈ fpOperates rd rs1 opf rs2) ∨ (u = .cp ∧ i ∈ cpOperates rd rs1 opf rs2) ∨
      ∃ row ∈ unitConditions, i = unitBranch u row a disp22) →
    (s.unitDisabled u = true → exec i s = .next (s.raise (if u = .fpu then .fpDisabled else .cpDisabled))) ∧
    (s.unitDisabled u = false → (s.unit u).excPending = true →
      exec i s = .next (s.raise (if u = .fpu then .fpException else .cpException))))

/-! ## The other instructions -/

/-- UNIMP and every reserved encoding take illegal_instruction, which is their effect (46_misc.md R500, R501; 30_encoding.md
R156, R165, R166; 60_exceptions.md R552): type 2, and no memory changes. IFLUSH (R503) is a NOP with the IFT pin high and takes
illegal_instruction with it low. -/
def Obligations.IllegalEncodingsTrap : Prop :=
  ∀ (s : State) (const22 : BitVec 22) (rs1 : RegNum) (src : Operand2),
    (∀ i ∈ illegalEncodings const22,
      ∃ t, exec i s = .next t ∧ t = s.raise .illegalInstruction ∧ t.tbr.tt = 2#8 ∧ MemKept s t) ∧
    (s.pins.iflushTraps = false →
      ∃ t, exec (.iflush rs1 src) s = .next t ∧ RegsKept s t ∧ OnlyRegs s t ∧ MemKept s t) ∧
    (s.pins.iflushTraps = true → exec (.iflush rs1 src) s = .next (s.raise .illegalInstruction))

/-! ## Traps, interrupts, reset -/

/-- Taking a trap (60_exceptions.md R520 to R523): ET cleared, S to PS, S set, the window below, the program counters (those past
an annulled instruction) in its r[17] and r[18], tt, PC and nPC from the trap table, the next program flow check off if that is
enabled (R595); no other register and no memory changes, and of the registers those two count as written (R585; log 37). Of the
units only the one whose exception is taken changes (R556; that it does not enter exception mode when its queue is empty is the
model's choice, log 30). Writes of control registers that are still late are seen first (R647 lets the handler see either; the
model's choice, log 22). Every earlier store is seen by the fetches after the trap, so the record of the newest stores is empty
(20_memory.md R142, the spec's decision D6; the record is the model's choice, log 17). -/
def Obligations.TrapEntrySavesAndVectors : Prop :=
  ∀ (s : State) (trap : Trap), s.psr.et = true →
    let t := s.raise trap
    let s' := s.settleLate
    let window := s'.psr.cwp - 1#3
    (s.late = [] → s' = s) ∧
      t.regIn window 17#5 = (if s.annul then s.npc else s.pc) ∧
      t.regIn window 18#5 = (if s.annul then s.npc + 4#32 else s.npc) ∧
      (∀ w n, phys w n ≠ phys window 17#5 → phys w n ≠ phys window 18#5 → t.regIn w n = s.regIn w n) ∧
      CountsWritten s t [phys window 17#5, phys window 18#5] ∧
      t = { s' with
            globals := t.globals
            windows := t.windows
            psr := { s'.psr with et := false, ps := s'.psr.s, s := true, cwp := window }
            tbr := { s'.tbr with tt := trap.tt }
            pc := s'.tbr.tba ++ trap.tt ++ 0#4
            npc := s'.tbr.tba ++ trap.tt ++ 0#4 + 4#32
            annul := false
            prev := .other
            pfcSkip := s.pfcSkip || s.pins.flowEnabled
            recent := []
            fpu := t.fpu
            cp := t.cp } ∧
      (trap ≠ .fpException → t.fpu = s.fpu) ∧ (trap ≠ .cpException → t.cp = s.cp) ∧
      (trap = .fpException → t.fpu = { s.fpu with excPending := false, excMode := decide (s.fpu.queue ≠ []) }) ∧
      (trap = .cpException → t.cp = { s.cp with excPending := false, excMode := decide (s.cp.queue ≠ []) })

/-- A synchronous trap with ET = 0 makes the assignments of a trap and enters error mode (R530). Where a write of the PSR is still late,
the ET that decides is the one the trapping instruction saw, the late write notwithstanding, while the assignments are made to what the
late writes leave (as TrapEntrySavesAndVectors says): R530 does not say it, it is the model's choice (R435, R647; log 22). -/
def Obligations.TrapWithTrapsDisabledIsErrorMode : Prop :=
  ∀ (s : State) (trap : Trap), s.psr.et = false →
    s.raise trap = { ({ s with psr := { s.psr with et := true } } : State).raise trap with mode := .error } ∧
      (s.raise trap).tbr.tt = trap.tt ∧ (s.raise trap).psr.et = false

/-- The trap types and priorities of Tables 45 and 46 (R540), those of Ticc and of the interrupt levels 1 to 15 among them (R543),
with the hardware errors of R580 in their own order (R586); and the order in which the conditions of an instruction are tried:
none before one of higher priority (R542). -/
def Obligations.TrapTypesAndPriorities : Prop :=
  (∀ row ∈ ([(.imprecise, 100, 2), (.nonRestartable, 98, 2), (.registerFile, 101, 2), (.restartableLate, 99, 2),
      (.restartablePrecise, 97, 2), (.programFlow, 102, 2), (.instructionAccess, 1, 3), (.illegalInstruction, 2, 4),
      (.privilegedInstruction, 3, 5), (.fpDisabled, 4, 6), (.cpDisabled, 36, 6), (.windowOverflow, 5, 7),
      (.windowUnderflow, 6, 7), (.notAligned, 7, 8), (.fpException, 8, 9), (.cpException, 40, 9), (.dataAccess, 9, 10),
      (.tagOverflow, 10, 11)] : List (Trap × Nat × Nat)),
      row.1.tt.toNat = row.2.1 ∧ row.1.priority.1 = row.2.2) ∧
    (∀ n : BitVec 7, (Trap.trapInstruction n).tt.toNat = 128 + n.toNat ∧ (Trap.trapInstruction n).priority.1 = 12) ∧
    (∀ level : BitVec 4, level ≠ 0#4 →
      (Trap.interrupt level).tt.toNat = 16 + level.toNat ∧ (Trap.interrupt level).priority.1 = 28 - level.toNat) ∧
    [Trap.imprecise.priority.2, Trap.nonRestartable.priority.2, Trap.registerFile.priority.2, Trap.restartableLate.priority.2,
      Trap.restartablePrecise.priority.2, Trap.programFlow.priority.2] = [1, 2, 3, 4, 5, 6] ∧
    ∀ (s : State) (u : UnitId) (b c : Bool) (size : AccessSize) (w : Word),
      ∀ conds ∈ [s.memTraps b size w c, s.unitTraps u b size w c, s.rettTraps w, s.operateTraps u, s.wrpsrTraps w],
        (conds.map fun x => x.2.priority.1).Pairwise (· ≤ ·)

/-- An interrupt request above PIL, or of level 15, with traps enabled is taken between two instructions (R565 to R567), whatever
else the board brings at that boundary but RESET, HALT, a changed pin or a parity error: INTACK, and the entry of its trap type; the
instruction at PC is not executed, and annulled it is not returned to (R521). The level is that of the board's input at this
boundary, PIL and ET those that the boundary finds (a late write may be due there, R435, log 22). That INTACK and HWERROR, as the
step before left them, go off at this boundary, and that INTACK then stands in the state the step leaves, is the model's choice (log
39). -/
def Obligations.InterruptTakenBetweenInstructions : Prop :=
  ∀ s : State, s.mode = .execute → s.input.reset = false → s.input.halt = false → s.breaksPins s.input = false →
    s.input.upsets = [] →
    let a := (s.accept s.input).tickLate
    (a.interruptPending = true ↔ a.psr.et = true ∧ (s.input.irl = 15#4 ∨ a.psr.pil.toNat < s.input.irl.toNat)) ∧
    (a.psr.et = true → (s.input.irl = 15#4 ∨ a.psr.pil.toNat < s.input.irl.toNat) →
    step s = .next { a.raise (.interrupt s.input.irl) with intack := true } ∧
      (a.raise (.interrupt s.input.irl)).tbr.tt.toNat = 16 + s.input.irl.toNat ∧
      (a.irl = s.input.irl ∧ a.psr = s.tickLate.psr ∧ a.pc = s.pc ∧ a.npc = s.npc ∧ a.annul = s.annul) ∧
      (s.board = [] → s.input.irl = s.irl ∧ a = { s.tickLate with intack := false, hwerror := false }))

/-- With nothing pending an annulled instruction is passed over (00_scope.md R21 step 2, R23): no trap even if its fetch is
refused, and nothing changes but the program counters and, as at any boundary, what a late write due there changes (R435, log 22) and
the outputs INTACK and HWERROR, which go off (the model's choice, log 39); its word counts in an enabled program flow checksum
(60_exceptions.md R594; whatever it is, and free where it could not be fetched, log 24; what word it is where it meets a newer store
is not said, and the record of the newest stores stays as it was, log 17). An instruction that is not annulled and whose fetch is refused takes
instruction_access_exception before anything is decoded (R551; 20_memory.md R122), those outputs off as well (log 39). -/
def Obligations.AnnulledSlotAndRefusedFetch : Prop :=
  ∀ s : State, s.mode = .execute → s.board = [] →
    let a := s.tickLate
    a.interruptPending = false →
    a.fetchRefused = a.refuses a.instrAsi a.pc .word .fetch false ∧
    (s.annul = true →
      ∃ t, step s = .next t ∧
        t = { a with
              pc := s.npc, npc := s.npc + 4#32, annul := false, prev := .other, intack := false, hwerror := false,
              pfcSum := t.pfcSum, free := t.free } ∧
        (s.pins.flowEnabled = false → t.pfcSum = s.pfcSum ∧ t.free = s.free) ∧
        (s.pins.flowEnabled = true → a.fetchRefused = false → a.fetchOverlaps = false →
          t.pfcSum = s.pfcSum ^^^ a.readWord a.instrAsi s.pc)) ∧
    (s.annul = false → a.fetchRefused = true →
      step s = .next ({ a with intack := false, hwerror := false }.raise .instructionAccess))

/-- Detected parity errors (inputs of the board, log 34) take the trap of their class, the gravest first (R580, R586), if the
instruction uses what is wrong (R541, R584): a PSR or execute PC error always (0x64); a decode PC error, one of the WIM or TBR if
read (0x62), the TBR by an interrupt, a refused fetch and a trap of the instruction too (WRPSR that clears ET takes none); one of an
r register that is read (0x65; IFLUSH reads none, log 34); of the fetch PC, of Y if read, of the fetched word (0x61). A register never
written since power-up is wrong when the board says so (R585, 70_reset_and_hazards.md R632; log 37). Wrong load data (0x63, R581)
trap past the load: the state before the trap is that after the load, or the state past it where its second transaction was
refused, with nothing but the load's destination exchanged (the loads of the units too, and an atomic's memory write is performed: the
model's choices, log 34). An FBfcc takes
fp_disabled for wrong FPU signals (R582; HWERROR free, log 35). With 601MODE low no bus is checked (R583). An annulled instruction
takes 0x64 only (log 34); an interrupt and a refused fetch come after the graver errors, a refused fetch after 0x61 too. What is not
used raises nothing, the TBR without a trap among it. Choices of the model: HWERROR stands after the trap (R587, log 39),
which registers count as used, an illegal alternate-space word reads none, a hardware error trap is not turned into 0x62 by a wrong
TBR, a late write of TBA does not count as written yet (log 22), the orders R586 leaves open (log 34). -/
def Obligations.ParityErrorsTrapByClass : Prop :=
  ∀ s : State, s.mode = .execute → s.input.reset = false → s.input.halt = false → s.breaksPins s.input = false →
    s.input.upsets.contains .resetLine = false →
    let found (site : UpsetSite) : Bool := s.input.upsets.contains site
    let a := (s.accept s.input).tickLate
    let w := a.fetchedWord
    let u := a.latch w
    let i := decode w
    let runs : Prop := a.annul = false ∧ a.fetchRefused = false
    let error (t : State) (trap : Trap) : Prop := step s = .next { t.raise trap with hwerror := true }
    let imprecise : Prop := found .executePc = true ∨ found .psr = true
    let wrongTbr : Bool := wrongParity s.input .tbr a.written.tba
    let nonRestartable : Prop :=
      (a.annul = false ∧ found .decodePc = true) ∨ (a.interruptPending = true ∧ wrongTbr = true) ∨
        (a.annul = false ∧ a.fetchRefused = true ∧ wrongTbr = true) ∨
        (runs ∧ (ReadsWim i ∧ wrongParity s.input .wim a.written.wim = true ∨ ReadsTbr i ∧ wrongTbr = true))
    let registerFile : Prop := runs ∧ ReadsWrongRegister a s.input i
    let precise : Prop :=
      (a.annul = false ∧ found .fetchPc = true) ∨
        (runs ∧ ((ReadsY i ∧ wrongParity s.input .y a.written.y = true) ∨
          (found .fetchData = true ∧ a.pins.busParityEnabled = true)))
    let signals : Prop :=
      found .fpuSignals = true ∧ a.pins.busParityEnabled = true ∧ opField w = 0b00#2 ∧ op2Field w = 0b110#3
    let data (target : LoadTarget) : Prop :=
      found .loadData = true ∧ a.pins.busParityEnabled = true ∧ ReceivesData u i target
    let trapFree : Prop :=
      ¬signals ∧ ((∃ t, exec i u = .next t ∧ t.mode = .execute ∧ (u.psr.et = true → t.psr.et = true)) ∨
        ∃ rs1 src, i = .wrpsr rs1 src ∧ u.psr.s = true ∧ (u.reg rs1 ^^^ u.operand2 src).toNat % 32 < 8)
    (imprecise → error a .imprecise) ∧
    (¬imprecise → nonRestartable → error a .nonRestartable) ∧
    (¬imprecise → ¬nonRestartable → registerFile → error a .registerFile) ∧
    (¬imprecise → ¬nonRestartable → ¬registerFile → a.interruptPending = true → ¬precise →
      step s = .next { a.raise (.interrupt a.irl) with intack := true }) ∧
    (¬imprecise → a.annul = true → a.interruptPending = false → step s = .next a.skip) ∧
    (¬imprecise → ¬nonRestartable → a.annul = false → a.fetchRefused = true →
      (precise → error a .restartablePrecise) ∧
        (¬precise → a.interruptPending = false → step s = .next (a.raise .instructionAccess))) ∧
    (¬imprecise → ¬nonRestartable → ¬registerFile → runs → a.interruptPending = false ∨ precise →
      (∀ (v : State) (trap : Trap), wrongTbr = true →
        signals ∨ (exec i u = .next (v.raise trap) ∧ v.psr.et = u.psr.et ∧ (v.raise trap).pc ≠ u.npc) →
        error u .nonRestartable) ∧
      (wrongTbr = false ∨ trapFree →
        (∀ target, data target → ∃ t base v, exec i u = .next t ∧
          ((base = t ∧
              t = { u with
                    globals := t.globals, windows := t.windows, fpu := t.fpu, cp := t.cp, mem := t.mem, recent := t.recent,
                    pc := u.npc, npc := u.npc + 4#32, prev := .other, free := t.free }) ∨
            (t = u.raise .dataAccess ∧ base = { u with pc := u.npc, npc := u.npc + 4#32, prev := .other })) ∧
          OnlyTarget base v target ∧ error v .restartableLate) ∧
        ((∀ target, ¬data target) → precise → error u .restartablePrecise) ∧
        ((∀ target, ¬data target) → ¬precise → signals →
          ∃ h, step s = .next { u.raise .fpDisabled with hwerror := h, free := u.free + 1 }) ∧
        ((∀ target, ¬data target) → ¬precise → ¬signals → step s = exec i u)))

/-- RESET as the model takes it (70_reset_and_hazards.md R620): asserted, the machine is in reset mode, from any mode, and stays in
it, with every register and memory as they were (that the reset is atomic, and ends with RESET whether HALT is asserted or not, is
the model's choice, log 36); deasserted, it is in execute mode with ET = 0, S = 1, PC = 0, nPC = 4, no annulled instruction, checksum 0 and checking enabled, HWERROR off,
the next fetch from the supervisor instruction space, and every other field of the PSR, the other registers of the integer unit
and memory as they were (late writes seen first, the model's choice, log 22). Nothing is said of the attached units, whose contents are free then (log 38). -/
def Obligations.ResetSetsPsrAndPc : Prop :=
  ∀ s : State, s.input.busWrites = [] →
    let kept (s t : State) : Prop := RegsKept s t ∧ t.wim = s.wim ∧ t.tbr = s.tbr ∧ t.y = s.y ∧ MemKept s t
    let s' := s.settleLate
    (s.late = [] → s' = s) ∧
    (s.input.reset = true →
      ∃ t, step s = .next t ∧ t.mode = .reset ∧ kept s t ∧ t.psr = s.psr ∧ t.pc = s.pc ∧ t.npc = s.npc) ∧
    (s.mode = .reset → s.input.reset = false → s.breaksPins s.input = false →
      ∃ t, step s = .next t ∧ t.mode = .execute ∧ kept s' t ∧ t.psr = { s'.psr with et := false, s := true } ∧ t.pc = 0#32 ∧
        t.npc = 4#32 ∧ t.annul = false ∧ t.pfcSum = 0#32 ∧ t.pfcSkip = false ∧ t.hwerror = false ∧ t.instrAsi = 0x09#8)

/-- HALT holds the machine and error mode lasts until RESET (60_exceptions.md R531, R602): no register, no program counter and
no mode changes meanwhile. In error mode with no input of the board left, the step is the fault that says so (log 36). An error
of the coding of the RESET signal leads to error mode (R532; that nothing else changes is the model's choice, log 34). -/
def Obligations.HaltAndErrorModeHold : Prop :=
  ∀ s : State,
    (s.mode = .error → s.board = [] → step s = .fault .errorModeHalted) ∧
    (s.input.reset = false → s.breaksPins s.input = false →
      let kept (t : State) : Prop :=
        RegsKept s t ∧ t.psr = s.psr ∧ t.wim = s.wim ∧ t.tbr = s.tbr ∧ t.y = s.y ∧ t.pc = s.pc ∧ t.npc = s.npc ∧
          t.annul = s.annul ∧ (s.input.busWrites = [] → MemKept s t)
      ((s.mode = .error ∧ s.board ≠ [] ∨ s.mode = .execute ∧ s.input.halt = true) →
        ∃ t, step s = .next t ∧ t.mode = s.mode ∧ kept t) ∧
      (s.mode = .execute → s.input.halt = false → s.input.upsets.contains .resetLine = true →
        ∃ t, step s = .next t ∧ t.mode = .error ∧ kept t))

/-- What the board does between two instructions (00_scope.md R10), before everything else of the step: writes of other masters, each
one changing its bytes and nothing more of memory (20_memory.md R136; their place and order are the spec's decision D5, the model's
choice, log 42); FEXC and CEXC, which make the unit's exception pending (10_state.md R86, 60_exceptions.md R556) with the queue and
the state register that the input shows (the model's choice, log 27), and nothing else; CCC, the coprocessor's codes (45_fpop_cpop.md
R492); new refusal rules (R122). A change of a static pin while the machine is neither reset nor halted, which R602 does not let the
board make, is refused (the model's choice, log 40), during reset or halt the pins follow it (of CP and IFT the model's choice, log
40). A fetch that meets a store, of the machine or of another master, newer than the prefetch path need have seen reads the word as
it stood before the newest n of them, for a free n (R142, R143; the window is log 17's), and what stood before a store is memory
without it. A store is recorded with the bytes it replaced; it is one the path need not have seen for the next fetchAhead words, each
word executed takes one of them, and a fetch meets it when it replaced a byte of the word at PC (the model's, log 17). The word so
fetched counts in an enabled program flow checksum (60_exceptions.md R591 to R593; a check word by the parameter, log 24, and the word
of an instruction that traps too, the model's choice, log 44), and INTACK and HWERROR are off (the model's choice, log 39). -/
def Obligations.BoardActsBetweenInstructions : Prop :=
  ∀ s : State,
    let a := s.tickLate
    let raised (x : CoUnit) (e : Option UnitException) : CoUnit :=
      match e with
      | none => x
      | some e => { x with excPending := true, queue := e.queue, status := e.status }
    (∀ (inp : BoardInput) (rest : List BoardInput), s.board = inp :: rest →
      step s =
        step { inp.busWrites.foldl State.busWrite s with
          fpu := raised s.fpu inp.fexc
          cp := { raised s.cp inp.cexc with cc := inp.ccc.getD s.cp.cc }
          mexc := inp.mexc.getD s.mexc
          board := { inp with busWrites := [], fexc := none, cexc := none, ccc := none, mexc := none } :: rest } ∧
      (∀ p, inp.reset = true ∨ inp.halt = true → inp.pins = some p →
        step s = step { s with pins := p, board := { inp with pins := none } :: rest }) ∧
      (∀ p, inp.reset = false → inp.halt = false → inp.pins = some p → p ≠ s.pins → step s = .refused .staticPinChanged)) ∧
    (s.mem.wf = true →
      (∀ b : BusWrite, b.bytes.length ≤ 4 →
        StoresBytes s (s.busWrite b) b.asi b.addr b.bytes ∧
          s.busWrite b = { s with mem := (s.busWrite b).mem, recent := (s.busWrite b).recent }) ∧
      (s.memBefore 0 = s.mem ∧
        ∀ (asi : Asi) (a : Word) (bs : List Byte) (n : Nat), (s.store asi a bs).memBefore (n + 1) = s.memBefore n)) ∧
    (∀ (asi : Asi) (addr : Word) (bs : List Byte),
      (s.store asi addr bs).recent = storeRecord s asi addr bs.length :: s.recent) ∧
    tickStores s.recent = (s.recent.filter fun r => decide (1 < r.left)).map (fun r => { r with left := r.left - 1 }) ∧
    (a.fetchOverlaps = true ↔
      ∃ r ∈ s.recent, 0 < r.left ∧ ∃ c ∈ r.old, ∃ j : Nat, j < 4 ∧ c.1 = memKey a.instrAsi s.pc + j) ∧
    (s.mode = .execute → s.board = [] → a.interruptPending = false → s.annul = false → a.fetchRefused = false →
      a.fetchOverlaps = true →
      ∃ n w, n ≤ s.recent.length ∧ w = { s with mem := s.memBefore n }.readWord a.instrAsi s.pc ∧
        step s = exec (decode w)
          { a with
            ir := w
            pfcSum := if s.pins.flowEnabled && s.countsInFlow w then s.pfcSum ^^^ w else s.pfcSum
            recent := tickStores s.recent
            intack := false
            hwerror := false
            free := s.free + 1 })
end

