-- ==== Sys2Proof/Laws/Decode.lean ====
section
/-! SUPPORT. The fields of an encoded word: each field of a format gives back what was put into it. -/

namespace Sys2Proof

theorem opField_format3 (op : BitVec 2) (rd : RegNum) (op3 : BitVec 6) (rs1 : RegNum) (low : BitVec 14) :
    opField (format3 op rd op3 rs1 low) = op := by
  apply BitVec.eq_of_getLsbD_eq
  intro i hi
  simp only [opField, format3, BitVec.getLsbD_extractLsb', BitVec.getLsbD_append]
  interval_cases i <;> simp

theorem rdField_format3 (op : BitVec 2) (rd : RegNum) (op3 : BitVec 6) (rs1 : RegNum) (low : BitVec 14) :
    rdField (format3 op rd op3 rs1 low) = rd := by
  apply BitVec.eq_of_getLsbD_eq
  intro i hi
  simp only [rdField, format3, BitVec.getLsbD_extractLsb', BitVec.getLsbD_append]
  interval_cases i <;> simp

theorem op3Field_format3 (op : BitVec 2) (rd : RegNum) (op3 : BitVec 6) (rs1 : RegNum) (low : BitVec 14) :
    op3Field (format3 op rd op3 rs1 low) = op3 := by
  apply BitVec.eq_of_getLsbD_eq
  intro i hi
  simp only [op3Field, format3, BitVec.getLsbD_extractLsb', BitVec.getLsbD_append]
  interval_cases i <;> simp

theorem rs1Field_format3 (op : BitVec 2) (rd : RegNum) (op3 : BitVec 6) (rs1 : RegNum) (low : BitVec 14) :
    rs1Field (format3 op rd op3 rs1 low) = rs1 := by
  apply BitVec.eq_of_getLsbD_eq
  intro i hi
  simp only [rs1Field, format3, BitVec.getLsbD_extractLsb', BitVec.getLsbD_append]
  interval_cases i <;> simp

theorem low_format3 (op : BitVec 2) (rd : RegNum) (op3 : BitVec 6) (rs1 : RegNum) (low : BitVec 14) :
    (format3 op rd op3 rs1 low).extractLsb' 0 14 = low := by
  apply BitVec.eq_of_getLsbD_eq
  intro i hi
  simp only [format3, BitVec.getLsbD_extractLsb', BitVec.getLsbD_append]
  interval_cases i <;> simp

theorem condField_format3 (op : BitVec 2) (rd : RegNum) (op3 : BitVec 6) (rs1 : RegNum) (low : BitVec 14) :
    condField (format3 op rd op3 rs1 low) = rd.extractLsb' 0 4 := by
  apply BitVec.eq_of_getLsbD_eq
  intro i hi
  simp only [condField, format3, BitVec.getLsbD_extractLsb', BitVec.getLsbD_append]
  interval_cases i <;> simp

theorem opField_format2 (rd : RegNum) (op2 : BitVec 3) (imm22 : BitVec 22) :
    opField (format2 rd op2 imm22) = 0b00#2 := by
  apply BitVec.eq_of_getLsbD_eq
  intro i hi
  simp only [opField, format2, BitVec.getLsbD_extractLsb', BitVec.getLsbD_append]
  interval_cases i <;> simp

theorem rdField_format2 (rd : RegNum) (op2 : BitVec 3) (imm22 : BitVec 22) :
    rdField (format2 rd op2 imm22) = rd := by
  apply BitVec.eq_of_getLsbD_eq
  intro i hi
  simp only [rdField, format2, BitVec.getLsbD_extractLsb', BitVec.getLsbD_append]
  interval_cases i <;> simp

theorem op2Field_format2 (rd : RegNum) (op2 : BitVec 3) (imm22 : BitVec 22) :
    op2Field (format2 rd op2 imm22) = op2 := by
  apply BitVec.eq_of_getLsbD_eq
  intro i hi
  simp only [op2Field, format2, BitVec.getLsbD_extractLsb', BitVec.getLsbD_append]
  interval_cases i <;> simp

theorem imm22Field_format2 (rd : RegNum) (op2 : BitVec 3) (imm22 : BitVec 22) :
    imm22Field (format2 rd op2 imm22) = imm22 := by
  apply BitVec.eq_of_getLsbD_eq
  intro i hi
  simp only [imm22Field, format2, BitVec.getLsbD_extractLsb', BitVec.getLsbD_append]
  interval_cases i <;> simp

theorem condField_branchWord (a : Bool) (cond : BitVec 4) (op2 : BitVec 3) (disp22 : BitVec 22) :
    condField (branchWord a cond op2 disp22) = cond := by
  apply BitVec.eq_of_getLsbD_eq
  intro i hi
  simp only [condField, branchWord, format2, BitVec.getLsbD_extractLsb', BitVec.getLsbD_append]
  interval_cases i <;> simp

theorem aField_branchWord (a : Bool) (cond : BitVec 4) (op2 : BitVec 3) (disp22 : BitVec 22) :
    aField (branchWord a cond op2 disp22) = a := by
  simp only [aField, branchWord, format2, BitVec.getLsbD_append]
  cases a <;> simp

theorem opField_format1 (disp30 : BitVec 30) : opField (format1 disp30) = 0b01#2 := by
  apply BitVec.eq_of_getLsbD_eq
  intro i hi
  simp only [opField, format1, BitVec.getLsbD_extractLsb', BitVec.getLsbD_append]
  interval_cases i <;> simp

theorem disp30Field_format1 (disp30 : BitVec 30) : disp30Field (format1 disp30) = disp30 := by
  apply BitVec.eq_of_getLsbD_eq
  intro i hi
  simp only [disp30Field, format1, BitVec.getLsbD_extractLsb', BitVec.getLsbD_append]
  simp [hi]

/-! ## The low half of format 3: every field read from it is read from those 14 bits -/

theorem iField_low (w : Word) : iField w = (w.extractLsb' 0 14).getLsbD 13 := by
  simp [iField]

theorem simm13Field_low (w : Word) : simm13Field w = (w.extractLsb' 0 14).extractLsb' 0 13 := by
  apply BitVec.eq_of_getLsbD_eq
  intro i hi
  simp only [simm13Field, BitVec.getLsbD_extractLsb']
  simp [hi, show i < 14 by omega]

theorem rs2Field_low (w : Word) : rs2Field w = (w.extractLsb' 0 14).extractLsb' 0 5 := by
  apply BitVec.eq_of_getLsbD_eq
  intro i hi
  simp only [rs2Field, BitVec.getLsbD_extractLsb']
  simp [hi, show i < 14 by omega]

theorem opfField_low (w : Word) : opfField w = (w.extractLsb' 0 14).extractLsb' 5 9 := by
  apply BitVec.eq_of_getLsbD_eq
  intro i hi
  simp only [opfField, BitVec.getLsbD_extractLsb']
  simp [hi, show 5 + i < 14 by omega]

theorem asiField_low (w : Word) : asiField w = (w.extractLsb' 0 14).extractLsb' 5 8 := by
  apply BitVec.eq_of_getLsbD_eq
  intro i hi
  simp only [asiField, BitVec.getLsbD_extractLsb']
  simp [hi, show 5 + i < 14 by omega]

end Sys2Proof
end

