-- ==== Sys2Proof/Laws/State.lean ====
section
/-! SUPPORT. What each state update leaves in each field, one lemma per field and update, so that no proof unfolds an
update. -/

namespace Sys2Proof.Machine

/-! ### writePhys -/

@[simp] theorem State.writePhys_pc (s : State) (p : PhysReg) (v : Word) : (s.writePhys p v).pc = s.pc := rfl
@[simp] theorem State.writePhys_npc (s : State) (p : PhysReg) (v : Word) : (s.writePhys p v).npc = s.npc := rfl
@[simp] theorem State.writePhys_psr (s : State) (p : PhysReg) (v : Word) : (s.writePhys p v).psr = s.psr := rfl
@[simp] theorem State.writePhys_wim (s : State) (p : PhysReg) (v : Word) : (s.writePhys p v).wim = s.wim := rfl
@[simp] theorem State.writePhys_tbr (s : State) (p : PhysReg) (v : Word) : (s.writePhys p v).tbr = s.tbr := rfl
@[simp] theorem State.writePhys_y (s : State) (p : PhysReg) (v : Word) : (s.writePhys p v).y = s.y := rfl
@[simp] theorem State.writePhys_written (s : State) (p : PhysReg) (v : Word) : (s.writePhys p v).written = s.written := rfl
@[simp] theorem State.writePhys_late (s : State) (p : PhysReg) (v : Word) : (s.writePhys p v).late = s.late := rfl
@[simp] theorem State.writePhys_annul (s : State) (p : PhysReg) (v : Word) : (s.writePhys p v).annul = s.annul := rfl
@[simp] theorem State.writePhys_prev (s : State) (p : PhysReg) (v : Word) : (s.writePhys p v).prev = s.prev := rfl
@[simp] theorem State.writePhys_mode (s : State) (p : PhysReg) (v : Word) : (s.writePhys p v).mode = s.mode := rfl
@[simp] theorem State.writePhys_pfcSum (s : State) (p : PhysReg) (v : Word) : (s.writePhys p v).pfcSum = s.pfcSum := rfl
@[simp] theorem State.writePhys_pfcSkip (s : State) (p : PhysReg) (v : Word) : (s.writePhys p v).pfcSkip = s.pfcSkip := rfl
@[simp] theorem State.writePhys_ir (s : State) (p : PhysReg) (v : Word) : (s.writePhys p v).ir = s.ir := rfl
@[simp] theorem State.writePhys_fpu (s : State) (p : PhysReg) (v : Word) : (s.writePhys p v).fpu = s.fpu := rfl
@[simp] theorem State.writePhys_cp (s : State) (p : PhysReg) (v : Word) : (s.writePhys p v).cp = s.cp := rfl
@[simp] theorem State.writePhys_mem (s : State) (p : PhysReg) (v : Word) : (s.writePhys p v).mem = s.mem := rfl
@[simp] theorem State.writePhys_mexc (s : State) (p : PhysReg) (v : Word) : (s.writePhys p v).mexc = s.mexc := rfl
@[simp] theorem State.writePhys_asiSpaces (s : State) (p : PhysReg) (v : Word) : (s.writePhys p v).asiSpaces = s.asiSpaces := rfl
@[simp] theorem State.writePhys_pins (s : State) (p : PhysReg) (v : Word) : (s.writePhys p v).pins = s.pins := rfl
@[simp] theorem State.writePhys_params (s : State) (p : PhysReg) (v : Word) : (s.writePhys p v).params = s.params := rfl
@[simp] theorem State.writePhys_irl (s : State) (p : PhysReg) (v : Word) : (s.writePhys p v).irl = s.irl := rfl
@[simp] theorem State.writePhys_board (s : State) (p : PhysReg) (v : Word) : (s.writePhys p v).board = s.board := rfl
@[simp] theorem State.writePhys_recent (s : State) (p : PhysReg) (v : Word) : (s.writePhys p v).recent = s.recent := rfl
@[simp] theorem State.writePhys_intack (s : State) (p : PhysReg) (v : Word) : (s.writePhys p v).intack = s.intack := rfl
@[simp] theorem State.writePhys_hwerror (s : State) (p : PhysReg) (v : Word) : (s.writePhys p v).hwerror = s.hwerror := rfl
@[simp] theorem State.writePhys_free (s : State) (p : PhysReg) (v : Word) : (s.writePhys p v).free = s.free := rfl

/-! ### setRegIn -/

@[simp] theorem State.setRegIn_pc (s : State) (w : Window) (n : RegNum) (v : Word) : (s.setRegIn w n v).pc = s.pc := rfl
@[simp] theorem State.setRegIn_npc (s : State) (w : Window) (n : RegNum) (v : Word) : (s.setRegIn w n v).npc = s.npc := rfl
@[simp] theorem State.setRegIn_psr (s : State) (w : Window) (n : RegNum) (v : Word) : (s.setRegIn w n v).psr = s.psr := rfl
@[simp] theorem State.setRegIn_wim (s : State) (w : Window) (n : RegNum) (v : Word) : (s.setRegIn w n v).wim = s.wim := rfl
@[simp] theorem State.setRegIn_tbr (s : State) (w : Window) (n : RegNum) (v : Word) : (s.setRegIn w n v).tbr = s.tbr := rfl
@[simp] theorem State.setRegIn_y (s : State) (w : Window) (n : RegNum) (v : Word) : (s.setRegIn w n v).y = s.y := rfl
@[simp] theorem State.setRegIn_written (s : State) (w : Window) (n : RegNum) (v : Word) : (s.setRegIn w n v).written = s.written := rfl
@[simp] theorem State.setRegIn_late (s : State) (w : Window) (n : RegNum) (v : Word) : (s.setRegIn w n v).late = s.late := rfl
@[simp] theorem State.setRegIn_annul (s : State) (w : Window) (n : RegNum) (v : Word) : (s.setRegIn w n v).annul = s.annul := rfl
@[simp] theorem State.setRegIn_prev (s : State) (w : Window) (n : RegNum) (v : Word) : (s.setRegIn w n v).prev = s.prev := rfl
@[simp] theorem State.setRegIn_mode (s : State) (w : Window) (n : RegNum) (v : Word) : (s.setRegIn w n v).mode = s.mode := rfl
@[simp] theorem State.setRegIn_pfcSum (s : State) (w : Window) (n : RegNum) (v : Word) : (s.setRegIn w n v).pfcSum = s.pfcSum := rfl
@[simp] theorem State.setRegIn_pfcSkip (s : State) (w : Window) (n : RegNum) (v : Word) : (s.setRegIn w n v).pfcSkip = s.pfcSkip := rfl
@[simp] theorem State.setRegIn_ir (s : State) (w : Window) (n : RegNum) (v : Word) : (s.setRegIn w n v).ir = s.ir := rfl
@[simp] theorem State.setRegIn_fpu (s : State) (w : Window) (n : RegNum) (v : Word) : (s.setRegIn w n v).fpu = s.fpu := rfl
@[simp] theorem State.setRegIn_cp (s : State) (w : Window) (n : RegNum) (v : Word) : (s.setRegIn w n v).cp = s.cp := rfl
@[simp] theorem State.setRegIn_mem (s : State) (w : Window) (n : RegNum) (v : Word) : (s.setRegIn w n v).mem = s.mem := rfl
@[simp] theorem State.setRegIn_mexc (s : State) (w : Window) (n : RegNum) (v : Word) : (s.setRegIn w n v).mexc = s.mexc := rfl
@[simp] theorem State.setRegIn_asiSpaces (s : State) (w : Window) (n : RegNum) (v : Word) : (s.setRegIn w n v).asiSpaces = s.asiSpaces := rfl
@[simp] theorem State.setRegIn_pins (s : State) (w : Window) (n : RegNum) (v : Word) : (s.setRegIn w n v).pins = s.pins := rfl
@[simp] theorem State.setRegIn_params (s : State) (w : Window) (n : RegNum) (v : Word) : (s.setRegIn w n v).params = s.params := rfl
@[simp] theorem State.setRegIn_irl (s : State) (w : Window) (n : RegNum) (v : Word) : (s.setRegIn w n v).irl = s.irl := rfl
@[simp] theorem State.setRegIn_board (s : State) (w : Window) (n : RegNum) (v : Word) : (s.setRegIn w n v).board = s.board := rfl
@[simp] theorem State.setRegIn_recent (s : State) (w : Window) (n : RegNum) (v : Word) : (s.setRegIn w n v).recent = s.recent := rfl
@[simp] theorem State.setRegIn_intack (s : State) (w : Window) (n : RegNum) (v : Word) : (s.setRegIn w n v).intack = s.intack := rfl
@[simp] theorem State.setRegIn_hwerror (s : State) (w : Window) (n : RegNum) (v : Word) : (s.setRegIn w n v).hwerror = s.hwerror := rfl
@[simp] theorem State.setRegIn_free (s : State) (w : Window) (n : RegNum) (v : Word) : (s.setRegIn w n v).free = s.free := rfl

/-! ### setReg -/

@[simp] theorem State.setReg_pc (s : State) (n : RegNum) (v : Word) : (s.setReg n v).pc = s.pc := rfl
@[simp] theorem State.setReg_npc (s : State) (n : RegNum) (v : Word) : (s.setReg n v).npc = s.npc := rfl
@[simp] theorem State.setReg_psr (s : State) (n : RegNum) (v : Word) : (s.setReg n v).psr = s.psr := rfl
@[simp] theorem State.setReg_wim (s : State) (n : RegNum) (v : Word) : (s.setReg n v).wim = s.wim := rfl
@[simp] theorem State.setReg_tbr (s : State) (n : RegNum) (v : Word) : (s.setReg n v).tbr = s.tbr := rfl
@[simp] theorem State.setReg_y (s : State) (n : RegNum) (v : Word) : (s.setReg n v).y = s.y := rfl
@[simp] theorem State.setReg_written (s : State) (n : RegNum) (v : Word) : (s.setReg n v).written = s.written := rfl
@[simp] theorem State.setReg_late (s : State) (n : RegNum) (v : Word) : (s.setReg n v).late = s.late := rfl
@[simp] theorem State.setReg_annul (s : State) (n : RegNum) (v : Word) : (s.setReg n v).annul = s.annul := rfl
@[simp] theorem State.setReg_prev (s : State) (n : RegNum) (v : Word) : (s.setReg n v).prev = s.prev := rfl
@[simp] theorem State.setReg_mode (s : State) (n : RegNum) (v : Word) : (s.setReg n v).mode = s.mode := rfl
@[simp] theorem State.setReg_pfcSum (s : State) (n : RegNum) (v : Word) : (s.setReg n v).pfcSum = s.pfcSum := rfl
@[simp] theorem State.setReg_pfcSkip (s : State) (n : RegNum) (v : Word) : (s.setReg n v).pfcSkip = s.pfcSkip := rfl
@[simp] theorem State.setReg_ir (s : State) (n : RegNum) (v : Word) : (s.setReg n v).ir = s.ir := rfl
@[simp] theorem State.setReg_fpu (s : State) (n : RegNum) (v : Word) : (s.setReg n v).fpu = s.fpu := rfl
@[simp] theorem State.setReg_cp (s : State) (n : RegNum) (v : Word) : (s.setReg n v).cp = s.cp := rfl
@[simp] theorem State.setReg_mem (s : State) (n : RegNum) (v : Word) : (s.setReg n v).mem = s.mem := rfl
@[simp] theorem State.setReg_mexc (s : State) (n : RegNum) (v : Word) : (s.setReg n v).mexc = s.mexc := rfl
@[simp] theorem State.setReg_asiSpaces (s : State) (n : RegNum) (v : Word) : (s.setReg n v).asiSpaces = s.asiSpaces := rfl
@[simp] theorem State.setReg_pins (s : State) (n : RegNum) (v : Word) : (s.setReg n v).pins = s.pins := rfl
@[simp] theorem State.setReg_params (s : State) (n : RegNum) (v : Word) : (s.setReg n v).params = s.params := rfl
@[simp] theorem State.setReg_irl (s : State) (n : RegNum) (v : Word) : (s.setReg n v).irl = s.irl := rfl
@[simp] theorem State.setReg_board (s : State) (n : RegNum) (v : Word) : (s.setReg n v).board = s.board := rfl
@[simp] theorem State.setReg_recent (s : State) (n : RegNum) (v : Word) : (s.setReg n v).recent = s.recent := rfl
@[simp] theorem State.setReg_intack (s : State) (n : RegNum) (v : Word) : (s.setReg n v).intack = s.intack := rfl
@[simp] theorem State.setReg_hwerror (s : State) (n : RegNum) (v : Word) : (s.setReg n v).hwerror = s.hwerror := rfl
@[simp] theorem State.setReg_free (s : State) (n : RegNum) (v : Word) : (s.setReg n v).free = s.free := rfl

/-! ### advance -/

@[simp] theorem State.advance_globals (s : State) : (s.advance).globals = s.globals := rfl
@[simp] theorem State.advance_windows (s : State) : (s.advance).windows = s.windows := rfl
@[simp] theorem State.advance_pc (s : State) : (s.advance).pc = s.npc := rfl
@[simp] theorem State.advance_npc (s : State) : (s.advance).npc = s.npc + 4#32 := rfl
@[simp] theorem State.advance_psr (s : State) : (s.advance).psr = s.psr := rfl
@[simp] theorem State.advance_wim (s : State) : (s.advance).wim = s.wim := rfl
@[simp] theorem State.advance_tbr (s : State) : (s.advance).tbr = s.tbr := rfl
@[simp] theorem State.advance_y (s : State) : (s.advance).y = s.y := rfl
@[simp] theorem State.advance_written (s : State) : (s.advance).written = s.written := rfl
@[simp] theorem State.advance_late (s : State) : (s.advance).late = s.late := rfl
@[simp] theorem State.advance_annul (s : State) : (s.advance).annul = s.annul := rfl
@[simp] theorem State.advance_prev (s : State) : (s.advance).prev = .other := rfl
@[simp] theorem State.advance_mode (s : State) : (s.advance).mode = s.mode := rfl
@[simp] theorem State.advance_pfcSum (s : State) : (s.advance).pfcSum = s.pfcSum := rfl
@[simp] theorem State.advance_pfcSkip (s : State) : (s.advance).pfcSkip = s.pfcSkip := rfl
@[simp] theorem State.advance_ir (s : State) : (s.advance).ir = s.ir := rfl
@[simp] theorem State.advance_fpu (s : State) : (s.advance).fpu = s.fpu := rfl
@[simp] theorem State.advance_cp (s : State) : (s.advance).cp = s.cp := rfl
@[simp] theorem State.advance_mem (s : State) : (s.advance).mem = s.mem := rfl
@[simp] theorem State.advance_mexc (s : State) : (s.advance).mexc = s.mexc := rfl
@[simp] theorem State.advance_asiSpaces (s : State) : (s.advance).asiSpaces = s.asiSpaces := rfl
@[simp] theorem State.advance_pins (s : State) : (s.advance).pins = s.pins := rfl
@[simp] theorem State.advance_params (s : State) : (s.advance).params = s.params := rfl
@[simp] theorem State.advance_irl (s : State) : (s.advance).irl = s.irl := rfl
@[simp] theorem State.advance_board (s : State) : (s.advance).board = s.board := rfl
@[simp] theorem State.advance_recent (s : State) : (s.advance).recent = s.recent := rfl
@[simp] theorem State.advance_intack (s : State) : (s.advance).intack = s.intack := rfl
@[simp] theorem State.advance_hwerror (s : State) : (s.advance).hwerror = s.hwerror := rfl
@[simp] theorem State.advance_free (s : State) : (s.advance).free = s.free := rfl

/-! ### setControls -/

@[simp] theorem State.setControls_globals (s : State) (c : Controls) : (s.setControls c).globals = s.globals := rfl
@[simp] theorem State.setControls_windows (s : State) (c : Controls) : (s.setControls c).windows = s.windows := rfl
@[simp] theorem State.setControls_pc (s : State) (c : Controls) : (s.setControls c).pc = s.pc := rfl
@[simp] theorem State.setControls_npc (s : State) (c : Controls) : (s.setControls c).npc = s.npc := rfl
@[simp] theorem State.setControls_psr (s : State) (c : Controls) : (s.setControls c).psr = c.psr := rfl
@[simp] theorem State.setControls_wim (s : State) (c : Controls) : (s.setControls c).wim = c.wim := rfl
@[simp] theorem State.setControls_tbr (s : State) (c : Controls) : (s.setControls c).tbr = c.tbr := rfl
@[simp] theorem State.setControls_y (s : State) (c : Controls) : (s.setControls c).y = c.y := rfl
@[simp] theorem State.setControls_written (s : State) (c : Controls) : (s.setControls c).written = c.written := rfl
@[simp] theorem State.setControls_late (s : State) (c : Controls) : (s.setControls c).late = s.late := rfl
@[simp] theorem State.setControls_annul (s : State) (c : Controls) : (s.setControls c).annul = s.annul := rfl
@[simp] theorem State.setControls_prev (s : State) (c : Controls) : (s.setControls c).prev = s.prev := rfl
@[simp] theorem State.setControls_mode (s : State) (c : Controls) : (s.setControls c).mode = s.mode := rfl
@[simp] theorem State.setControls_pfcSum (s : State) (c : Controls) : (s.setControls c).pfcSum = s.pfcSum := rfl
@[simp] theorem State.setControls_pfcSkip (s : State) (c : Controls) : (s.setControls c).pfcSkip = s.pfcSkip := rfl
@[simp] theorem State.setControls_ir (s : State) (c : Controls) : (s.setControls c).ir = s.ir := rfl
@[simp] theorem State.setControls_fpu (s : State) (c : Controls) : (s.setControls c).fpu = s.fpu := rfl
@[simp] theorem State.setControls_cp (s : State) (c : Controls) : (s.setControls c).cp = s.cp := rfl
@[simp] theorem State.setControls_mem (s : State) (c : Controls) : (s.setControls c).mem = s.mem := rfl
@[simp] theorem State.setControls_mexc (s : State) (c : Controls) : (s.setControls c).mexc = s.mexc := rfl
@[simp] theorem State.setControls_asiSpaces (s : State) (c : Controls) : (s.setControls c).asiSpaces = s.asiSpaces := rfl
@[simp] theorem State.setControls_pins (s : State) (c : Controls) : (s.setControls c).pins = s.pins := rfl
@[simp] theorem State.setControls_params (s : State) (c : Controls) : (s.setControls c).params = s.params := rfl
@[simp] theorem State.setControls_irl (s : State) (c : Controls) : (s.setControls c).irl = s.irl := rfl
@[simp] theorem State.setControls_board (s : State) (c : Controls) : (s.setControls c).board = s.board := rfl
@[simp] theorem State.setControls_recent (s : State) (c : Controls) : (s.setControls c).recent = s.recent := rfl
@[simp] theorem State.setControls_intack (s : State) (c : Controls) : (s.setControls c).intack = s.intack := rfl
@[simp] theorem State.setControls_hwerror (s : State) (c : Controls) : (s.setControls c).hwerror = s.hwerror := rfl
@[simp] theorem State.setControls_free (s : State) (c : Controls) : (s.setControls c).free = s.free := rfl

/-! ### writeControl -/

@[simp] theorem State.writeControl_globals (s : State) (w : ControlWrite) : (s.writeControl w).globals = s.globals := rfl
@[simp] theorem State.writeControl_windows (s : State) (w : ControlWrite) : (s.writeControl w).windows = s.windows := rfl
@[simp] theorem State.writeControl_pc (s : State) (w : ControlWrite) : (s.writeControl w).pc = s.pc := rfl
@[simp] theorem State.writeControl_npc (s : State) (w : ControlWrite) : (s.writeControl w).npc = s.npc := rfl
@[simp] theorem State.writeControl_annul (s : State) (w : ControlWrite) : (s.writeControl w).annul = s.annul := rfl
@[simp] theorem State.writeControl_prev (s : State) (w : ControlWrite) : (s.writeControl w).prev = s.prev := rfl
@[simp] theorem State.writeControl_mode (s : State) (w : ControlWrite) : (s.writeControl w).mode = s.mode := rfl
@[simp] theorem State.writeControl_pfcSum (s : State) (w : ControlWrite) : (s.writeControl w).pfcSum = s.pfcSum := rfl
@[simp] theorem State.writeControl_pfcSkip (s : State) (w : ControlWrite) : (s.writeControl w).pfcSkip = s.pfcSkip := rfl
@[simp] theorem State.writeControl_ir (s : State) (w : ControlWrite) : (s.writeControl w).ir = s.ir := rfl
@[simp] theorem State.writeControl_fpu (s : State) (w : ControlWrite) : (s.writeControl w).fpu = s.fpu := rfl
@[simp] theorem State.writeControl_cp (s : State) (w : ControlWrite) : (s.writeControl w).cp = s.cp := rfl
@[simp] theorem State.writeControl_mem (s : State) (w : ControlWrite) : (s.writeControl w).mem = s.mem := rfl
@[simp] theorem State.writeControl_mexc (s : State) (w : ControlWrite) : (s.writeControl w).mexc = s.mexc := rfl
@[simp] theorem State.writeControl_asiSpaces (s : State) (w : ControlWrite) : (s.writeControl w).asiSpaces = s.asiSpaces := rfl
@[simp] theorem State.writeControl_pins (s : State) (w : ControlWrite) : (s.writeControl w).pins = s.pins := rfl
@[simp] theorem State.writeControl_params (s : State) (w : ControlWrite) : (s.writeControl w).params = s.params := rfl
@[simp] theorem State.writeControl_irl (s : State) (w : ControlWrite) : (s.writeControl w).irl = s.irl := rfl
@[simp] theorem State.writeControl_board (s : State) (w : ControlWrite) : (s.writeControl w).board = s.board := rfl
@[simp] theorem State.writeControl_recent (s : State) (w : ControlWrite) : (s.writeControl w).recent = s.recent := rfl
@[simp] theorem State.writeControl_intack (s : State) (w : ControlWrite) : (s.writeControl w).intack = s.intack := rfl
@[simp] theorem State.writeControl_hwerror (s : State) (w : ControlWrite) : (s.writeControl w).hwerror = s.hwerror := rfl
@[simp] theorem State.writeControl_free (s : State) (w : ControlWrite) : (s.writeControl w).free = s.free := rfl

/-! ### updatePsr -/

@[simp] theorem State.updatePsr_globals (s : State) (f : Psr → Psr) : (s.updatePsr f).globals = s.globals := rfl
@[simp] theorem State.updatePsr_windows (s : State) (f : Psr → Psr) : (s.updatePsr f).windows = s.windows := rfl
@[simp] theorem State.updatePsr_pc (s : State) (f : Psr → Psr) : (s.updatePsr f).pc = s.pc := rfl
@[simp] theorem State.updatePsr_npc (s : State) (f : Psr → Psr) : (s.updatePsr f).npc = s.npc := rfl
@[simp] theorem State.updatePsr_psr (s : State) (f : Psr → Psr) : (s.updatePsr f).psr = f s.psr := rfl
@[simp] theorem State.updatePsr_wim (s : State) (f : Psr → Psr) : (s.updatePsr f).wim = s.wim := rfl
@[simp] theorem State.updatePsr_tbr (s : State) (f : Psr → Psr) : (s.updatePsr f).tbr = s.tbr := rfl
@[simp] theorem State.updatePsr_y (s : State) (f : Psr → Psr) : (s.updatePsr f).y = s.y := rfl
@[simp] theorem State.updatePsr_written (s : State) (f : Psr → Psr) : (s.updatePsr f).written = s.written := rfl
@[simp] theorem State.updatePsr_late (s : State) (f : Psr → Psr) : (s.updatePsr f).late = s.late.map (LateWrite.afterPsr f) := rfl
@[simp] theorem State.updatePsr_annul (s : State) (f : Psr → Psr) : (s.updatePsr f).annul = s.annul := rfl
@[simp] theorem State.updatePsr_prev (s : State) (f : Psr → Psr) : (s.updatePsr f).prev = s.prev := rfl
@[simp] theorem State.updatePsr_mode (s : State) (f : Psr → Psr) : (s.updatePsr f).mode = s.mode := rfl
@[simp] theorem State.updatePsr_pfcSum (s : State) (f : Psr → Psr) : (s.updatePsr f).pfcSum = s.pfcSum := rfl
@[simp] theorem State.updatePsr_pfcSkip (s : State) (f : Psr → Psr) : (s.updatePsr f).pfcSkip = s.pfcSkip := rfl
@[simp] theorem State.updatePsr_ir (s : State) (f : Psr → Psr) : (s.updatePsr f).ir = s.ir := rfl
@[simp] theorem State.updatePsr_fpu (s : State) (f : Psr → Psr) : (s.updatePsr f).fpu = s.fpu := rfl
@[simp] theorem State.updatePsr_cp (s : State) (f : Psr → Psr) : (s.updatePsr f).cp = s.cp := rfl
@[simp] theorem State.updatePsr_mem (s : State) (f : Psr → Psr) : (s.updatePsr f).mem = s.mem := rfl
@[simp] theorem State.updatePsr_mexc (s : State) (f : Psr → Psr) : (s.updatePsr f).mexc = s.mexc := rfl
@[simp] theorem State.updatePsr_asiSpaces (s : State) (f : Psr → Psr) : (s.updatePsr f).asiSpaces = s.asiSpaces := rfl
@[simp] theorem State.updatePsr_pins (s : State) (f : Psr → Psr) : (s.updatePsr f).pins = s.pins := rfl
@[simp] theorem State.updatePsr_params (s : State) (f : Psr → Psr) : (s.updatePsr f).params = s.params := rfl
@[simp] theorem State.updatePsr_irl (s : State) (f : Psr → Psr) : (s.updatePsr f).irl = s.irl := rfl
@[simp] theorem State.updatePsr_board (s : State) (f : Psr → Psr) : (s.updatePsr f).board = s.board := rfl
@[simp] theorem State.updatePsr_recent (s : State) (f : Psr → Psr) : (s.updatePsr f).recent = s.recent := rfl
@[simp] theorem State.updatePsr_intack (s : State) (f : Psr → Psr) : (s.updatePsr f).intack = s.intack := rfl
@[simp] theorem State.updatePsr_hwerror (s : State) (f : Psr → Psr) : (s.updatePsr f).hwerror = s.hwerror := rfl
@[simp] theorem State.updatePsr_free (s : State) (f : Psr → Psr) : (s.updatePsr f).free = s.free := rfl

/-! ### updateY -/

@[simp] theorem State.updateY_globals (s : State) (v : Word) : (s.updateY v).globals = s.globals := rfl
@[simp] theorem State.updateY_windows (s : State) (v : Word) : (s.updateY v).windows = s.windows := rfl
@[simp] theorem State.updateY_pc (s : State) (v : Word) : (s.updateY v).pc = s.pc := rfl
@[simp] theorem State.updateY_npc (s : State) (v : Word) : (s.updateY v).npc = s.npc := rfl
@[simp] theorem State.updateY_psr (s : State) (v : Word) : (s.updateY v).psr = s.psr := rfl
@[simp] theorem State.updateY_wim (s : State) (v : Word) : (s.updateY v).wim = s.wim := rfl
@[simp] theorem State.updateY_tbr (s : State) (v : Word) : (s.updateY v).tbr = s.tbr := rfl
@[simp] theorem State.updateY_y (s : State) (v : Word) : (s.updateY v).y = v := rfl
@[simp] theorem State.updateY_written (s : State) (v : Word) : (s.updateY v).written = { s.written with y := true } := rfl
@[simp] theorem State.updateY_late (s : State) (v : Word) : (s.updateY v).late = s.late.filter LateWrite.survivesY := rfl
@[simp] theorem State.updateY_annul (s : State) (v : Word) : (s.updateY v).annul = s.annul := rfl
@[simp] theorem State.updateY_prev (s : State) (v : Word) : (s.updateY v).prev = s.prev := rfl
@[simp] theorem State.updateY_mode (s : State) (v : Word) : (s.updateY v).mode = s.mode := rfl
@[simp] theorem State.updateY_pfcSum (s : State) (v : Word) : (s.updateY v).pfcSum = s.pfcSum := rfl
@[simp] theorem State.updateY_pfcSkip (s : State) (v : Word) : (s.updateY v).pfcSkip = s.pfcSkip := rfl
@[simp] theorem State.updateY_ir (s : State) (v : Word) : (s.updateY v).ir = s.ir := rfl
@[simp] theorem State.updateY_fpu (s : State) (v : Word) : (s.updateY v).fpu = s.fpu := rfl
@[simp] theorem State.updateY_cp (s : State) (v : Word) : (s.updateY v).cp = s.cp := rfl
@[simp] theorem State.updateY_mem (s : State) (v : Word) : (s.updateY v).mem = s.mem := rfl
@[simp] theorem State.updateY_mexc (s : State) (v : Word) : (s.updateY v).mexc = s.mexc := rfl
@[simp] theorem State.updateY_asiSpaces (s : State) (v : Word) : (s.updateY v).asiSpaces = s.asiSpaces := rfl
@[simp] theorem State.updateY_pins (s : State) (v : Word) : (s.updateY v).pins = s.pins := rfl
@[simp] theorem State.updateY_params (s : State) (v : Word) : (s.updateY v).params = s.params := rfl
@[simp] theorem State.updateY_irl (s : State) (v : Word) : (s.updateY v).irl = s.irl := rfl
@[simp] theorem State.updateY_board (s : State) (v : Word) : (s.updateY v).board = s.board := rfl
@[simp] theorem State.updateY_recent (s : State) (v : Word) : (s.updateY v).recent = s.recent := rfl
@[simp] theorem State.updateY_intack (s : State) (v : Word) : (s.updateY v).intack = s.intack := rfl
@[simp] theorem State.updateY_hwerror (s : State) (v : Word) : (s.updateY v).hwerror = s.hwerror := rfl
@[simp] theorem State.updateY_free (s : State) (v : Word) : (s.updateY v).free = s.free := rfl

/-! ### tickLate -/

@[simp] theorem State.tickLate_globals (s : State) : (s.tickLate).globals = s.globals := rfl
@[simp] theorem State.tickLate_windows (s : State) : (s.tickLate).windows = s.windows := rfl
@[simp] theorem State.tickLate_pc (s : State) : (s.tickLate).pc = s.pc := rfl
@[simp] theorem State.tickLate_npc (s : State) : (s.tickLate).npc = s.npc := rfl
@[simp] theorem State.tickLate_annul (s : State) : (s.tickLate).annul = s.annul := rfl
@[simp] theorem State.tickLate_prev (s : State) : (s.tickLate).prev = s.prev := rfl
@[simp] theorem State.tickLate_mode (s : State) : (s.tickLate).mode = s.mode := rfl
@[simp] theorem State.tickLate_pfcSum (s : State) : (s.tickLate).pfcSum = s.pfcSum := rfl
@[simp] theorem State.tickLate_pfcSkip (s : State) : (s.tickLate).pfcSkip = s.pfcSkip := rfl
@[simp] theorem State.tickLate_ir (s : State) : (s.tickLate).ir = s.ir := rfl
@[simp] theorem State.tickLate_fpu (s : State) : (s.tickLate).fpu = s.fpu := rfl
@[simp] theorem State.tickLate_cp (s : State) : (s.tickLate).cp = s.cp := rfl
@[simp] theorem State.tickLate_mem (s : State) : (s.tickLate).mem = s.mem := rfl
@[simp] theorem State.tickLate_mexc (s : State) : (s.tickLate).mexc = s.mexc := rfl
@[simp] theorem State.tickLate_asiSpaces (s : State) : (s.tickLate).asiSpaces = s.asiSpaces := rfl
@[simp] theorem State.tickLate_pins (s : State) : (s.tickLate).pins = s.pins := rfl
@[simp] theorem State.tickLate_params (s : State) : (s.tickLate).params = s.params := rfl
@[simp] theorem State.tickLate_irl (s : State) : (s.tickLate).irl = s.irl := rfl
@[simp] theorem State.tickLate_board (s : State) : (s.tickLate).board = s.board := rfl
@[simp] theorem State.tickLate_recent (s : State) : (s.tickLate).recent = s.recent := rfl
@[simp] theorem State.tickLate_intack (s : State) : (s.tickLate).intack = s.intack := rfl
@[simp] theorem State.tickLate_hwerror (s : State) : (s.tickLate).hwerror = s.hwerror := rfl
@[simp] theorem State.tickLate_free (s : State) : (s.tickLate).free = s.free := rfl

/-! ### settleLate -/

@[simp] theorem State.settleLate_globals (s : State) : (s.settleLate).globals = s.globals := rfl
@[simp] theorem State.settleLate_windows (s : State) : (s.settleLate).windows = s.windows := rfl
@[simp] theorem State.settleLate_pc (s : State) : (s.settleLate).pc = s.pc := rfl
@[simp] theorem State.settleLate_npc (s : State) : (s.settleLate).npc = s.npc := rfl
@[simp] theorem State.settleLate_late (s : State) : (s.settleLate).late = [] := rfl
@[simp] theorem State.settleLate_annul (s : State) : (s.settleLate).annul = s.annul := rfl
@[simp] theorem State.settleLate_prev (s : State) : (s.settleLate).prev = s.prev := rfl
@[simp] theorem State.settleLate_mode (s : State) : (s.settleLate).mode = s.mode := rfl
@[simp] theorem State.settleLate_pfcSum (s : State) : (s.settleLate).pfcSum = s.pfcSum := rfl
@[simp] theorem State.settleLate_pfcSkip (s : State) : (s.settleLate).pfcSkip = s.pfcSkip := rfl
@[simp] theorem State.settleLate_ir (s : State) : (s.settleLate).ir = s.ir := rfl
@[simp] theorem State.settleLate_fpu (s : State) : (s.settleLate).fpu = s.fpu := rfl
@[simp] theorem State.settleLate_cp (s : State) : (s.settleLate).cp = s.cp := rfl
@[simp] theorem State.settleLate_mem (s : State) : (s.settleLate).mem = s.mem := rfl
@[simp] theorem State.settleLate_mexc (s : State) : (s.settleLate).mexc = s.mexc := rfl
@[simp] theorem State.settleLate_asiSpaces (s : State) : (s.settleLate).asiSpaces = s.asiSpaces := rfl
@[simp] theorem State.settleLate_pins (s : State) : (s.settleLate).pins = s.pins := rfl
@[simp] theorem State.settleLate_params (s : State) : (s.settleLate).params = s.params := rfl
@[simp] theorem State.settleLate_irl (s : State) : (s.settleLate).irl = s.irl := rfl
@[simp] theorem State.settleLate_board (s : State) : (s.settleLate).board = s.board := rfl
@[simp] theorem State.settleLate_recent (s : State) : (s.settleLate).recent = s.recent := rfl
@[simp] theorem State.settleLate_intack (s : State) : (s.settleLate).intack = s.intack := rfl
@[simp] theorem State.settleLate_hwerror (s : State) : (s.settleLate).hwerror = s.hwerror := rfl
@[simp] theorem State.settleLate_free (s : State) : (s.settleLate).free = s.free := rfl

/-! ### setIcc -/

@[simp] theorem State.setIcc_globals (s : State) (f : Icc) : (s.setIcc f).globals = s.globals := rfl
@[simp] theorem State.setIcc_windows (s : State) (f : Icc) : (s.setIcc f).windows = s.windows := rfl
@[simp] theorem State.setIcc_pc (s : State) (f : Icc) : (s.setIcc f).pc = s.pc := rfl
@[simp] theorem State.setIcc_npc (s : State) (f : Icc) : (s.setIcc f).npc = s.npc := rfl
@[simp] theorem State.setIcc_psr (s : State) (f : Icc) : (s.setIcc f).psr = { s.psr with icc := f } := rfl
@[simp] theorem State.setIcc_wim (s : State) (f : Icc) : (s.setIcc f).wim = s.wim := rfl
@[simp] theorem State.setIcc_tbr (s : State) (f : Icc) : (s.setIcc f).tbr = s.tbr := rfl
@[simp] theorem State.setIcc_y (s : State) (f : Icc) : (s.setIcc f).y = s.y := rfl
@[simp] theorem State.setIcc_written (s : State) (f : Icc) : (s.setIcc f).written = s.written := rfl
@[simp] theorem State.setIcc_late (s : State) (f : Icc) : (s.setIcc f).late = s.late.map (LateWrite.afterPsr fun p => { p with icc := f }) := rfl
@[simp] theorem State.setIcc_annul (s : State) (f : Icc) : (s.setIcc f).annul = s.annul := rfl
@[simp] theorem State.setIcc_prev (s : State) (f : Icc) : (s.setIcc f).prev = s.prev := rfl
@[simp] theorem State.setIcc_mode (s : State) (f : Icc) : (s.setIcc f).mode = s.mode := rfl
@[simp] theorem State.setIcc_pfcSum (s : State) (f : Icc) : (s.setIcc f).pfcSum = s.pfcSum := rfl
@[simp] theorem State.setIcc_pfcSkip (s : State) (f : Icc) : (s.setIcc f).pfcSkip = s.pfcSkip := rfl
@[simp] theorem State.setIcc_ir (s : State) (f : Icc) : (s.setIcc f).ir = s.ir := rfl
@[simp] theorem State.setIcc_fpu (s : State) (f : Icc) : (s.setIcc f).fpu = s.fpu := rfl
@[simp] theorem State.setIcc_cp (s : State) (f : Icc) : (s.setIcc f).cp = s.cp := rfl
@[simp] theorem State.setIcc_mem (s : State) (f : Icc) : (s.setIcc f).mem = s.mem := rfl
@[simp] theorem State.setIcc_mexc (s : State) (f : Icc) : (s.setIcc f).mexc = s.mexc := rfl
@[simp] theorem State.setIcc_asiSpaces (s : State) (f : Icc) : (s.setIcc f).asiSpaces = s.asiSpaces := rfl
@[simp] theorem State.setIcc_pins (s : State) (f : Icc) : (s.setIcc f).pins = s.pins := rfl
@[simp] theorem State.setIcc_params (s : State) (f : Icc) : (s.setIcc f).params = s.params := rfl
@[simp] theorem State.setIcc_irl (s : State) (f : Icc) : (s.setIcc f).irl = s.irl := rfl
@[simp] theorem State.setIcc_board (s : State) (f : Icc) : (s.setIcc f).board = s.board := rfl
@[simp] theorem State.setIcc_recent (s : State) (f : Icc) : (s.setIcc f).recent = s.recent := rfl
@[simp] theorem State.setIcc_intack (s : State) (f : Icc) : (s.setIcc f).intack = s.intack := rfl
@[simp] theorem State.setIcc_hwerror (s : State) (f : Icc) : (s.setIcc f).hwerror = s.hwerror := rfl
@[simp] theorem State.setIcc_free (s : State) (f : Icc) : (s.setIcc f).free = s.free := rfl

/-! ### store -/

@[simp] theorem State.store_globals (s : State) (asi : Asi) (a : Word) (bs : List Byte) : (s.store asi a bs).globals = s.globals := rfl
@[simp] theorem State.store_windows (s : State) (asi : Asi) (a : Word) (bs : List Byte) : (s.store asi a bs).windows = s.windows := rfl
@[simp] theorem State.store_pc (s : State) (asi : Asi) (a : Word) (bs : List Byte) : (s.store asi a bs).pc = s.pc := rfl
@[simp] theorem State.store_npc (s : State) (asi : Asi) (a : Word) (bs : List Byte) : (s.store asi a bs).npc = s.npc := rfl
@[simp] theorem State.store_psr (s : State) (asi : Asi) (a : Word) (bs : List Byte) : (s.store asi a bs).psr = s.psr := rfl
@[simp] theorem State.store_wim (s : State) (asi : Asi) (a : Word) (bs : List Byte) : (s.store asi a bs).wim = s.wim := rfl
@[simp] theorem State.store_tbr (s : State) (asi : Asi) (a : Word) (bs : List Byte) : (s.store asi a bs).tbr = s.tbr := rfl
@[simp] theorem State.store_y (s : State) (asi : Asi) (a : Word) (bs : List Byte) : (s.store asi a bs).y = s.y := rfl
@[simp] theorem State.store_written (s : State) (asi : Asi) (a : Word) (bs : List Byte) : (s.store asi a bs).written = s.written := rfl
@[simp] theorem State.store_late (s : State) (asi : Asi) (a : Word) (bs : List Byte) : (s.store asi a bs).late = s.late := rfl
@[simp] theorem State.store_annul (s : State) (asi : Asi) (a : Word) (bs : List Byte) : (s.store asi a bs).annul = s.annul := rfl
@[simp] theorem State.store_prev (s : State) (asi : Asi) (a : Word) (bs : List Byte) : (s.store asi a bs).prev = s.prev := rfl
@[simp] theorem State.store_mode (s : State) (asi : Asi) (a : Word) (bs : List Byte) : (s.store asi a bs).mode = s.mode := rfl
@[simp] theorem State.store_pfcSum (s : State) (asi : Asi) (a : Word) (bs : List Byte) : (s.store asi a bs).pfcSum = s.pfcSum := rfl
@[simp] theorem State.store_pfcSkip (s : State) (asi : Asi) (a : Word) (bs : List Byte) : (s.store asi a bs).pfcSkip = s.pfcSkip := rfl
@[simp] theorem State.store_ir (s : State) (asi : Asi) (a : Word) (bs : List Byte) : (s.store asi a bs).ir = s.ir := rfl
@[simp] theorem State.store_fpu (s : State) (asi : Asi) (a : Word) (bs : List Byte) : (s.store asi a bs).fpu = s.fpu := rfl
@[simp] theorem State.store_cp (s : State) (asi : Asi) (a : Word) (bs : List Byte) : (s.store asi a bs).cp = s.cp := rfl
@[simp] theorem State.store_mem (s : State) (asi : Asi) (a : Word) (bs : List Byte) : (s.store asi a bs).mem = s.mem.writeBytes asi a bs := rfl
@[simp] theorem State.store_mexc (s : State) (asi : Asi) (a : Word) (bs : List Byte) : (s.store asi a bs).mexc = s.mexc := rfl
@[simp] theorem State.store_asiSpaces (s : State) (asi : Asi) (a : Word) (bs : List Byte) : (s.store asi a bs).asiSpaces = s.asiSpaces := rfl
@[simp] theorem State.store_pins (s : State) (asi : Asi) (a : Word) (bs : List Byte) : (s.store asi a bs).pins = s.pins := rfl
@[simp] theorem State.store_params (s : State) (asi : Asi) (a : Word) (bs : List Byte) : (s.store asi a bs).params = s.params := rfl
@[simp] theorem State.store_irl (s : State) (asi : Asi) (a : Word) (bs : List Byte) : (s.store asi a bs).irl = s.irl := rfl
@[simp] theorem State.store_board (s : State) (asi : Asi) (a : Word) (bs : List Byte) : (s.store asi a bs).board = s.board := rfl
@[simp] theorem State.store_intack (s : State) (asi : Asi) (a : Word) (bs : List Byte) : (s.store asi a bs).intack = s.intack := rfl
@[simp] theorem State.store_hwerror (s : State) (asi : Asi) (a : Word) (bs : List Byte) : (s.store asi a bs).hwerror = s.hwerror := rfl
@[simp] theorem State.store_free (s : State) (asi : Asi) (a : Word) (bs : List Byte) : (s.store asi a bs).free = s.free := rfl

/-! ### setUnit -/

@[simp] theorem State.setUnit_globals (s : State) (u : UnitId) (x : CoUnit) : (s.setUnit u x).globals = s.globals := rfl
@[simp] theorem State.setUnit_windows (s : State) (u : UnitId) (x : CoUnit) : (s.setUnit u x).windows = s.windows := rfl
@[simp] theorem State.setUnit_pc (s : State) (u : UnitId) (x : CoUnit) : (s.setUnit u x).pc = s.pc := rfl
@[simp] theorem State.setUnit_npc (s : State) (u : UnitId) (x : CoUnit) : (s.setUnit u x).npc = s.npc := rfl
@[simp] theorem State.setUnit_psr (s : State) (u : UnitId) (x : CoUnit) : (s.setUnit u x).psr = s.psr := rfl
@[simp] theorem State.setUnit_wim (s : State) (u : UnitId) (x : CoUnit) : (s.setUnit u x).wim = s.wim := rfl
@[simp] theorem State.setUnit_tbr (s : State) (u : UnitId) (x : CoUnit) : (s.setUnit u x).tbr = s.tbr := rfl
@[simp] theorem State.setUnit_y (s : State) (u : UnitId) (x : CoUnit) : (s.setUnit u x).y = s.y := rfl
@[simp] theorem State.setUnit_written (s : State) (u : UnitId) (x : CoUnit) : (s.setUnit u x).written = s.written := rfl
@[simp] theorem State.setUnit_late (s : State) (u : UnitId) (x : CoUnit) : (s.setUnit u x).late = s.late := rfl
@[simp] theorem State.setUnit_annul (s : State) (u : UnitId) (x : CoUnit) : (s.setUnit u x).annul = s.annul := rfl
@[simp] theorem State.setUnit_prev (s : State) (u : UnitId) (x : CoUnit) : (s.setUnit u x).prev = s.prev := rfl
@[simp] theorem State.setUnit_mode (s : State) (u : UnitId) (x : CoUnit) : (s.setUnit u x).mode = s.mode := rfl
@[simp] theorem State.setUnit_pfcSum (s : State) (u : UnitId) (x : CoUnit) : (s.setUnit u x).pfcSum = s.pfcSum := rfl
@[simp] theorem State.setUnit_pfcSkip (s : State) (u : UnitId) (x : CoUnit) : (s.setUnit u x).pfcSkip = s.pfcSkip := rfl
@[simp] theorem State.setUnit_ir (s : State) (u : UnitId) (x : CoUnit) : (s.setUnit u x).ir = s.ir := rfl
@[simp] theorem State.setUnit_mem (s : State) (u : UnitId) (x : CoUnit) : (s.setUnit u x).mem = s.mem := rfl
@[simp] theorem State.setUnit_mexc (s : State) (u : UnitId) (x : CoUnit) : (s.setUnit u x).mexc = s.mexc := rfl
@[simp] theorem State.setUnit_asiSpaces (s : State) (u : UnitId) (x : CoUnit) : (s.setUnit u x).asiSpaces = s.asiSpaces := rfl
@[simp] theorem State.setUnit_pins (s : State) (u : UnitId) (x : CoUnit) : (s.setUnit u x).pins = s.pins := rfl
@[simp] theorem State.setUnit_params (s : State) (u : UnitId) (x : CoUnit) : (s.setUnit u x).params = s.params := rfl
@[simp] theorem State.setUnit_irl (s : State) (u : UnitId) (x : CoUnit) : (s.setUnit u x).irl = s.irl := rfl
@[simp] theorem State.setUnit_board (s : State) (u : UnitId) (x : CoUnit) : (s.setUnit u x).board = s.board := rfl
@[simp] theorem State.setUnit_recent (s : State) (u : UnitId) (x : CoUnit) : (s.setUnit u x).recent = s.recent := rfl
@[simp] theorem State.setUnit_intack (s : State) (u : UnitId) (x : CoUnit) : (s.setUnit u x).intack = s.intack := rfl
@[simp] theorem State.setUnit_hwerror (s : State) (u : UnitId) (x : CoUnit) : (s.setUnit u x).hwerror = s.hwerror := rfl
@[simp] theorem State.setUnit_free (s : State) (u : UnitId) (x : CoUnit) : (s.setUnit u x).free = s.free := rfl

/-! ### unsettle -/

@[simp] theorem State.unsettle_globals (s : State) (u : UnitId) : (s.unsettle u).globals = s.globals := rfl
@[simp] theorem State.unsettle_windows (s : State) (u : UnitId) : (s.unsettle u).windows = s.windows := rfl
@[simp] theorem State.unsettle_pc (s : State) (u : UnitId) : (s.unsettle u).pc = s.pc := rfl
@[simp] theorem State.unsettle_npc (s : State) (u : UnitId) : (s.unsettle u).npc = s.npc := rfl
@[simp] theorem State.unsettle_psr (s : State) (u : UnitId) : (s.unsettle u).psr = s.psr := rfl
@[simp] theorem State.unsettle_wim (s : State) (u : UnitId) : (s.unsettle u).wim = s.wim := rfl
@[simp] theorem State.unsettle_tbr (s : State) (u : UnitId) : (s.unsettle u).tbr = s.tbr := rfl
@[simp] theorem State.unsettle_y (s : State) (u : UnitId) : (s.unsettle u).y = s.y := rfl
@[simp] theorem State.unsettle_written (s : State) (u : UnitId) : (s.unsettle u).written = s.written := rfl
@[simp] theorem State.unsettle_late (s : State) (u : UnitId) : (s.unsettle u).late = s.late := rfl
@[simp] theorem State.unsettle_annul (s : State) (u : UnitId) : (s.unsettle u).annul = s.annul := rfl
@[simp] theorem State.unsettle_prev (s : State) (u : UnitId) : (s.unsettle u).prev = s.prev := rfl
@[simp] theorem State.unsettle_mode (s : State) (u : UnitId) : (s.unsettle u).mode = s.mode := rfl
@[simp] theorem State.unsettle_pfcSum (s : State) (u : UnitId) : (s.unsettle u).pfcSum = s.pfcSum := rfl
@[simp] theorem State.unsettle_pfcSkip (s : State) (u : UnitId) : (s.unsettle u).pfcSkip = s.pfcSkip := rfl
@[simp] theorem State.unsettle_ir (s : State) (u : UnitId) : (s.unsettle u).ir = s.ir := rfl
@[simp] theorem State.unsettle_mem (s : State) (u : UnitId) : (s.unsettle u).mem = s.mem := rfl
@[simp] theorem State.unsettle_mexc (s : State) (u : UnitId) : (s.unsettle u).mexc = s.mexc := rfl
@[simp] theorem State.unsettle_asiSpaces (s : State) (u : UnitId) : (s.unsettle u).asiSpaces = s.asiSpaces := rfl
@[simp] theorem State.unsettle_pins (s : State) (u : UnitId) : (s.unsettle u).pins = s.pins := rfl
@[simp] theorem State.unsettle_params (s : State) (u : UnitId) : (s.unsettle u).params = s.params := rfl
@[simp] theorem State.unsettle_irl (s : State) (u : UnitId) : (s.unsettle u).irl = s.irl := rfl
@[simp] theorem State.unsettle_board (s : State) (u : UnitId) : (s.unsettle u).board = s.board := rfl
@[simp] theorem State.unsettle_recent (s : State) (u : UnitId) : (s.unsettle u).recent = s.recent := rfl
@[simp] theorem State.unsettle_intack (s : State) (u : UnitId) : (s.unsettle u).intack = s.intack := rfl
@[simp] theorem State.unsettle_hwerror (s : State) (u : UnitId) : (s.unsettle u).hwerror = s.hwerror := rfl
@[simp] theorem State.unsettle_free (s : State) (u : UnitId) : (s.unsettle u).free = s.free + 1 := rfl

/-! ### acknowledge -/

@[simp] theorem State.acknowledge_globals (s : State) (t : Trap) : (s.acknowledge t).globals = s.globals := rfl
@[simp] theorem State.acknowledge_windows (s : State) (t : Trap) : (s.acknowledge t).windows = s.windows := rfl
@[simp] theorem State.acknowledge_pc (s : State) (t : Trap) : (s.acknowledge t).pc = s.pc := rfl
@[simp] theorem State.acknowledge_npc (s : State) (t : Trap) : (s.acknowledge t).npc = s.npc := rfl
@[simp] theorem State.acknowledge_psr (s : State) (t : Trap) : (s.acknowledge t).psr = s.psr := rfl
@[simp] theorem State.acknowledge_wim (s : State) (t : Trap) : (s.acknowledge t).wim = s.wim := rfl
@[simp] theorem State.acknowledge_tbr (s : State) (t : Trap) : (s.acknowledge t).tbr = s.tbr := rfl
@[simp] theorem State.acknowledge_y (s : State) (t : Trap) : (s.acknowledge t).y = s.y := rfl
@[simp] theorem State.acknowledge_written (s : State) (t : Trap) : (s.acknowledge t).written = s.written := rfl
@[simp] theorem State.acknowledge_late (s : State) (t : Trap) : (s.acknowledge t).late = s.late := rfl
@[simp] theorem State.acknowledge_annul (s : State) (t : Trap) : (s.acknowledge t).annul = s.annul := rfl
@[simp] theorem State.acknowledge_prev (s : State) (t : Trap) : (s.acknowledge t).prev = s.prev := rfl
@[simp] theorem State.acknowledge_mode (s : State) (t : Trap) : (s.acknowledge t).mode = s.mode := rfl
@[simp] theorem State.acknowledge_pfcSum (s : State) (t : Trap) : (s.acknowledge t).pfcSum = s.pfcSum := rfl
@[simp] theorem State.acknowledge_pfcSkip (s : State) (t : Trap) : (s.acknowledge t).pfcSkip = s.pfcSkip := rfl
@[simp] theorem State.acknowledge_ir (s : State) (t : Trap) : (s.acknowledge t).ir = s.ir := rfl
@[simp] theorem State.acknowledge_mem (s : State) (t : Trap) : (s.acknowledge t).mem = s.mem := rfl
@[simp] theorem State.acknowledge_mexc (s : State) (t : Trap) : (s.acknowledge t).mexc = s.mexc := rfl
@[simp] theorem State.acknowledge_asiSpaces (s : State) (t : Trap) : (s.acknowledge t).asiSpaces = s.asiSpaces := rfl
@[simp] theorem State.acknowledge_pins (s : State) (t : Trap) : (s.acknowledge t).pins = s.pins := rfl
@[simp] theorem State.acknowledge_params (s : State) (t : Trap) : (s.acknowledge t).params = s.params := rfl
@[simp] theorem State.acknowledge_irl (s : State) (t : Trap) : (s.acknowledge t).irl = s.irl := rfl
@[simp] theorem State.acknowledge_board (s : State) (t : Trap) : (s.acknowledge t).board = s.board := rfl
@[simp] theorem State.acknowledge_recent (s : State) (t : Trap) : (s.acknowledge t).recent = s.recent := rfl
@[simp] theorem State.acknowledge_intack (s : State) (t : Trap) : (s.acknowledge t).intack = s.intack := rfl
@[simp] theorem State.acknowledge_hwerror (s : State) (t : Trap) : (s.acknowledge t).hwerror = s.hwerror := rfl
@[simp] theorem State.acknowledge_free (s : State) (t : Trap) : (s.acknowledge t).free = s.free := rfl

/-! ### enterTrap -/

@[simp] theorem State.enterTrap_pc (s : State) (tt : BitVec 8) : (s.enterTrap tt).pc = s.settleLate.tbr.tba ++ tt ++ 0#4 := rfl
@[simp] theorem State.enterTrap_npc (s : State) (tt : BitVec 8) : (s.enterTrap tt).npc = s.settleLate.tbr.tba ++ tt ++ 0#4 + 4#32 := rfl
@[simp] theorem State.enterTrap_psr (s : State) (tt : BitVec 8) : (s.enterTrap tt).psr = { s.settleLate.psr with et := false, ps := s.settleLate.psr.s, s := true, cwp := s.settleLate.psr.cwp - 1#3 } := rfl
@[simp] theorem State.enterTrap_wim (s : State) (tt : BitVec 8) : (s.enterTrap tt).wim = s.settleLate.wim := rfl
@[simp] theorem State.enterTrap_tbr (s : State) (tt : BitVec 8) : (s.enterTrap tt).tbr = { s.settleLate.tbr with tt := tt } := rfl
@[simp] theorem State.enterTrap_y (s : State) (tt : BitVec 8) : (s.enterTrap tt).y = s.settleLate.y := rfl
@[simp] theorem State.enterTrap_written (s : State) (tt : BitVec 8) : (s.enterTrap tt).written = s.settleLate.written := rfl
@[simp] theorem State.enterTrap_late (s : State) (tt : BitVec 8) : (s.enterTrap tt).late = [] := rfl
@[simp] theorem State.enterTrap_annul (s : State) (tt : BitVec 8) : (s.enterTrap tt).annul = false := rfl
@[simp] theorem State.enterTrap_prev (s : State) (tt : BitVec 8) : (s.enterTrap tt).prev = .other := rfl
@[simp] theorem State.enterTrap_mode (s : State) (tt : BitVec 8) : (s.enterTrap tt).mode = s.mode := rfl
@[simp] theorem State.enterTrap_pfcSum (s : State) (tt : BitVec 8) : (s.enterTrap tt).pfcSum = s.pfcSum := rfl
@[simp] theorem State.enterTrap_pfcSkip (s : State) (tt : BitVec 8) : (s.enterTrap tt).pfcSkip = (s.pfcSkip || s.pins.flowEnabled) := rfl
@[simp] theorem State.enterTrap_ir (s : State) (tt : BitVec 8) : (s.enterTrap tt).ir = s.ir := rfl
@[simp] theorem State.enterTrap_fpu (s : State) (tt : BitVec 8) : (s.enterTrap tt).fpu = s.fpu := rfl
@[simp] theorem State.enterTrap_cp (s : State) (tt : BitVec 8) : (s.enterTrap tt).cp = s.cp := rfl
@[simp] theorem State.enterTrap_mem (s : State) (tt : BitVec 8) : (s.enterTrap tt).mem = s.mem := rfl
@[simp] theorem State.enterTrap_mexc (s : State) (tt : BitVec 8) : (s.enterTrap tt).mexc = s.mexc := rfl
@[simp] theorem State.enterTrap_asiSpaces (s : State) (tt : BitVec 8) : (s.enterTrap tt).asiSpaces = s.asiSpaces := rfl
@[simp] theorem State.enterTrap_pins (s : State) (tt : BitVec 8) : (s.enterTrap tt).pins = s.pins := rfl
@[simp] theorem State.enterTrap_params (s : State) (tt : BitVec 8) : (s.enterTrap tt).params = s.params := rfl
@[simp] theorem State.enterTrap_irl (s : State) (tt : BitVec 8) : (s.enterTrap tt).irl = s.irl := rfl
@[simp] theorem State.enterTrap_board (s : State) (tt : BitVec 8) : (s.enterTrap tt).board = s.board := rfl
@[simp] theorem State.enterTrap_recent (s : State) (tt : BitVec 8) : (s.enterTrap tt).recent = [] := rfl
@[simp] theorem State.enterTrap_intack (s : State) (tt : BitVec 8) : (s.enterTrap tt).intack = s.intack := rfl
@[simp] theorem State.enterTrap_hwerror (s : State) (tt : BitVec 8) : (s.enterTrap tt).hwerror = s.hwerror := rfl
@[simp] theorem State.enterTrap_free (s : State) (tt : BitVec 8) : (s.enterTrap tt).free = s.free := rfl

/-! ### raise -/

@[simp] theorem State.raise_pc (s : State) (t : Trap) : (s.raise t).pc = s.settleLate.tbr.tba ++ t.tt ++ 0#4 := rfl
@[simp] theorem State.raise_npc (s : State) (t : Trap) : (s.raise t).npc = s.settleLate.tbr.tba ++ t.tt ++ 0#4 + 4#32 := rfl
@[simp] theorem State.raise_psr (s : State) (t : Trap) : (s.raise t).psr = { s.settleLate.psr with et := false, ps := s.settleLate.psr.s, s := true, cwp := s.settleLate.psr.cwp - 1#3 } := rfl
@[simp] theorem State.raise_wim (s : State) (t : Trap) : (s.raise t).wim = s.settleLate.wim := rfl
@[simp] theorem State.raise_tbr (s : State) (t : Trap) : (s.raise t).tbr = { s.settleLate.tbr with tt := t.tt } := rfl
@[simp] theorem State.raise_y (s : State) (t : Trap) : (s.raise t).y = s.settleLate.y := rfl
@[simp] theorem State.raise_written (s : State) (t : Trap) : (s.raise t).written = s.settleLate.written := rfl
@[simp] theorem State.raise_late (s : State) (t : Trap) : (s.raise t).late = [] := rfl
@[simp] theorem State.raise_annul (s : State) (t : Trap) : (s.raise t).annul = false := rfl
@[simp] theorem State.raise_prev (s : State) (t : Trap) : (s.raise t).prev = .other := rfl
@[simp] theorem State.raise_mode (s : State) (t : Trap) : (s.raise t).mode = s.modeAfterTrap := rfl
@[simp] theorem State.raise_pfcSum (s : State) (t : Trap) : (s.raise t).pfcSum = s.pfcSum := rfl
@[simp] theorem State.raise_pfcSkip (s : State) (t : Trap) : (s.raise t).pfcSkip = (s.pfcSkip || s.pins.flowEnabled) := rfl
@[simp] theorem State.raise_ir (s : State) (t : Trap) : (s.raise t).ir = s.ir := rfl
@[simp] theorem State.raise_mem (s : State) (t : Trap) : (s.raise t).mem = s.mem := rfl
@[simp] theorem State.raise_mexc (s : State) (t : Trap) : (s.raise t).mexc = s.mexc := rfl
@[simp] theorem State.raise_asiSpaces (s : State) (t : Trap) : (s.raise t).asiSpaces = s.asiSpaces := rfl
@[simp] theorem State.raise_pins (s : State) (t : Trap) : (s.raise t).pins = s.pins := rfl
@[simp] theorem State.raise_params (s : State) (t : Trap) : (s.raise t).params = s.params := rfl
@[simp] theorem State.raise_irl (s : State) (t : Trap) : (s.raise t).irl = s.irl := rfl
@[simp] theorem State.raise_board (s : State) (t : Trap) : (s.raise t).board = s.board := rfl
@[simp] theorem State.raise_recent (s : State) (t : Trap) : (s.raise t).recent = [] := rfl
@[simp] theorem State.raise_intack (s : State) (t : Trap) : (s.raise t).intack = s.intack := rfl
@[simp] theorem State.raise_hwerror (s : State) (t : Trap) : (s.raise t).hwerror = s.hwerror := rfl
@[simp] theorem State.raise_free (s : State) (t : Trap) : (s.raise t).free = s.free := rfl

/-! ### hardwareTrap -/

@[simp] theorem State.hardwareTrap_pc (s : State) (t : Trap) : (s.hardwareTrap t).pc = s.settleLate.tbr.tba ++ t.tt ++ 0#4 := rfl
@[simp] theorem State.hardwareTrap_npc (s : State) (t : Trap) : (s.hardwareTrap t).npc = s.settleLate.tbr.tba ++ t.tt ++ 0#4 + 4#32 := rfl
@[simp] theorem State.hardwareTrap_psr (s : State) (t : Trap) : (s.hardwareTrap t).psr = { s.settleLate.psr with et := false, ps := s.settleLate.psr.s, s := true, cwp := s.settleLate.psr.cwp - 1#3 } := rfl
@[simp] theorem State.hardwareTrap_wim (s : State) (t : Trap) : (s.hardwareTrap t).wim = s.settleLate.wim := rfl
@[simp] theorem State.hardwareTrap_tbr (s : State) (t : Trap) : (s.hardwareTrap t).tbr = { s.settleLate.tbr with tt := t.tt } := rfl
@[simp] theorem State.hardwareTrap_y (s : State) (t : Trap) : (s.hardwareTrap t).y = s.settleLate.y := rfl
@[simp] theorem State.hardwareTrap_written (s : State) (t : Trap) : (s.hardwareTrap t).written = s.settleLate.written := rfl
@[simp] theorem State.hardwareTrap_late (s : State) (t : Trap) : (s.hardwareTrap t).late = [] := rfl
@[simp] theorem State.hardwareTrap_annul (s : State) (t : Trap) : (s.hardwareTrap t).annul = false := rfl
@[simp] theorem State.hardwareTrap_prev (s : State) (t : Trap) : (s.hardwareTrap t).prev = .other := rfl
@[simp] theorem State.hardwareTrap_mode (s : State) (t : Trap) : (s.hardwareTrap t).mode = s.modeAfterTrap := rfl
@[simp] theorem State.hardwareTrap_pfcSum (s : State) (t : Trap) : (s.hardwareTrap t).pfcSum = s.pfcSum := rfl
@[simp] theorem State.hardwareTrap_pfcSkip (s : State) (t : Trap) : (s.hardwareTrap t).pfcSkip = (s.pfcSkip || s.pins.flowEnabled) := rfl
@[simp] theorem State.hardwareTrap_ir (s : State) (t : Trap) : (s.hardwareTrap t).ir = s.ir := rfl
@[simp] theorem State.hardwareTrap_mem (s : State) (t : Trap) : (s.hardwareTrap t).mem = s.mem := rfl
@[simp] theorem State.hardwareTrap_mexc (s : State) (t : Trap) : (s.hardwareTrap t).mexc = s.mexc := rfl
@[simp] theorem State.hardwareTrap_asiSpaces (s : State) (t : Trap) : (s.hardwareTrap t).asiSpaces = s.asiSpaces := rfl
@[simp] theorem State.hardwareTrap_pins (s : State) (t : Trap) : (s.hardwareTrap t).pins = s.pins := rfl
@[simp] theorem State.hardwareTrap_params (s : State) (t : Trap) : (s.hardwareTrap t).params = s.params := rfl
@[simp] theorem State.hardwareTrap_irl (s : State) (t : Trap) : (s.hardwareTrap t).irl = s.irl := rfl
@[simp] theorem State.hardwareTrap_board (s : State) (t : Trap) : (s.hardwareTrap t).board = s.board := rfl
@[simp] theorem State.hardwareTrap_recent (s : State) (t : Trap) : (s.hardwareTrap t).recent = [] := rfl
@[simp] theorem State.hardwareTrap_intack (s : State) (t : Trap) : (s.hardwareTrap t).intack = s.intack := rfl
@[simp] theorem State.hardwareTrap_hwerror (s : State) (t : Trap) : (s.hardwareTrap t).hwerror = true := rfl
@[simp] theorem State.hardwareTrap_free (s : State) (t : Trap) : (s.hardwareTrap t).free = s.free := rfl

/-! ### transfer -/

@[simp] theorem State.transfer_globals (s : State) (target : Word) : (s.transfer target).globals = s.globals := rfl
@[simp] theorem State.transfer_windows (s : State) (target : Word) : (s.transfer target).windows = s.windows := rfl
@[simp] theorem State.transfer_pc (s : State) (target : Word) : (s.transfer target).pc = s.npc := rfl
@[simp] theorem State.transfer_psr (s : State) (target : Word) : (s.transfer target).psr = s.psr := rfl
@[simp] theorem State.transfer_wim (s : State) (target : Word) : (s.transfer target).wim = s.wim := rfl
@[simp] theorem State.transfer_tbr (s : State) (target : Word) : (s.transfer target).tbr = s.tbr := rfl
@[simp] theorem State.transfer_y (s : State) (target : Word) : (s.transfer target).y = s.y := rfl
@[simp] theorem State.transfer_written (s : State) (target : Word) : (s.transfer target).written = s.written := rfl
@[simp] theorem State.transfer_late (s : State) (target : Word) : (s.transfer target).late = s.late := rfl
@[simp] theorem State.transfer_annul (s : State) (target : Word) : (s.transfer target).annul = s.annul := rfl
@[simp] theorem State.transfer_prev (s : State) (target : Word) : (s.transfer target).prev = .other := rfl
@[simp] theorem State.transfer_mode (s : State) (target : Word) : (s.transfer target).mode = s.mode := rfl
@[simp] theorem State.transfer_pfcSum (s : State) (target : Word) : (s.transfer target).pfcSum = s.pfcSum := rfl
@[simp] theorem State.transfer_pfcSkip (s : State) (target : Word) : (s.transfer target).pfcSkip = s.pfcSkip := rfl
@[simp] theorem State.transfer_ir (s : State) (target : Word) : (s.transfer target).ir = s.ir := rfl
@[simp] theorem State.transfer_fpu (s : State) (target : Word) : (s.transfer target).fpu = s.fpu := rfl
@[simp] theorem State.transfer_cp (s : State) (target : Word) : (s.transfer target).cp = s.cp := rfl
@[simp] theorem State.transfer_mem (s : State) (target : Word) : (s.transfer target).mem = s.mem := rfl
@[simp] theorem State.transfer_mexc (s : State) (target : Word) : (s.transfer target).mexc = s.mexc := rfl
@[simp] theorem State.transfer_asiSpaces (s : State) (target : Word) : (s.transfer target).asiSpaces = s.asiSpaces := rfl
@[simp] theorem State.transfer_pins (s : State) (target : Word) : (s.transfer target).pins = s.pins := rfl
@[simp] theorem State.transfer_params (s : State) (target : Word) : (s.transfer target).params = s.params := rfl
@[simp] theorem State.transfer_irl (s : State) (target : Word) : (s.transfer target).irl = s.irl := rfl
@[simp] theorem State.transfer_board (s : State) (target : Word) : (s.transfer target).board = s.board := rfl
@[simp] theorem State.transfer_recent (s : State) (target : Word) : (s.transfer target).recent = s.recent := rfl
@[simp] theorem State.transfer_intack (s : State) (target : Word) : (s.transfer target).intack = s.intack := rfl
@[simp] theorem State.transfer_hwerror (s : State) (target : Word) : (s.transfer target).hwerror = s.hwerror := rfl

/-! ### afterFetch -/

@[simp] theorem State.afterFetch_globals (s : State) : (s.afterFetch).globals = s.globals := rfl
@[simp] theorem State.afterFetch_windows (s : State) : (s.afterFetch).windows = s.windows := rfl
@[simp] theorem State.afterFetch_pc (s : State) : (s.afterFetch).pc = s.pc := rfl
@[simp] theorem State.afterFetch_npc (s : State) : (s.afterFetch).npc = s.npc := rfl
@[simp] theorem State.afterFetch_psr (s : State) : (s.afterFetch).psr = s.psr := rfl
@[simp] theorem State.afterFetch_wim (s : State) : (s.afterFetch).wim = s.wim := rfl
@[simp] theorem State.afterFetch_tbr (s : State) : (s.afterFetch).tbr = s.tbr := rfl
@[simp] theorem State.afterFetch_y (s : State) : (s.afterFetch).y = s.y := rfl
@[simp] theorem State.afterFetch_written (s : State) : (s.afterFetch).written = s.written := rfl
@[simp] theorem State.afterFetch_late (s : State) : (s.afterFetch).late = s.late := rfl
@[simp] theorem State.afterFetch_annul (s : State) : (s.afterFetch).annul = s.annul := rfl
@[simp] theorem State.afterFetch_prev (s : State) : (s.afterFetch).prev = s.prev := rfl
@[simp] theorem State.afterFetch_mode (s : State) : (s.afterFetch).mode = s.mode := rfl
@[simp] theorem State.afterFetch_pfcSum (s : State) : (s.afterFetch).pfcSum = s.pfcSum := rfl
@[simp] theorem State.afterFetch_pfcSkip (s : State) : (s.afterFetch).pfcSkip = s.pfcSkip := rfl
@[simp] theorem State.afterFetch_ir (s : State) : (s.afterFetch).ir = s.ir := rfl
@[simp] theorem State.afterFetch_fpu (s : State) : (s.afterFetch).fpu = s.fpu := rfl
@[simp] theorem State.afterFetch_cp (s : State) : (s.afterFetch).cp = s.cp := rfl
@[simp] theorem State.afterFetch_mem (s : State) : (s.afterFetch).mem = s.mem := rfl
@[simp] theorem State.afterFetch_mexc (s : State) : (s.afterFetch).mexc = s.mexc := rfl
@[simp] theorem State.afterFetch_asiSpaces (s : State) : (s.afterFetch).asiSpaces = s.asiSpaces := rfl
@[simp] theorem State.afterFetch_pins (s : State) : (s.afterFetch).pins = s.pins := rfl
@[simp] theorem State.afterFetch_params (s : State) : (s.afterFetch).params = s.params := rfl
@[simp] theorem State.afterFetch_irl (s : State) : (s.afterFetch).irl = s.irl := rfl
@[simp] theorem State.afterFetch_board (s : State) : (s.afterFetch).board = s.board := rfl
@[simp] theorem State.afterFetch_recent (s : State) : (s.afterFetch).recent = s.recent := rfl
@[simp] theorem State.afterFetch_intack (s : State) : (s.afterFetch).intack = s.intack := rfl
@[simp] theorem State.afterFetch_hwerror (s : State) : (s.afterFetch).hwerror = s.hwerror := rfl

/-! ### latch -/

@[simp] theorem State.latch_globals (s : State) (w : Word) : (s.latch w).globals = s.globals := rfl
@[simp] theorem State.latch_windows (s : State) (w : Word) : (s.latch w).windows = s.windows := rfl
@[simp] theorem State.latch_pc (s : State) (w : Word) : (s.latch w).pc = s.pc := rfl
@[simp] theorem State.latch_npc (s : State) (w : Word) : (s.latch w).npc = s.npc := rfl
@[simp] theorem State.latch_psr (s : State) (w : Word) : (s.latch w).psr = s.psr := rfl
@[simp] theorem State.latch_wim (s : State) (w : Word) : (s.latch w).wim = s.wim := rfl
@[simp] theorem State.latch_tbr (s : State) (w : Word) : (s.latch w).tbr = s.tbr := rfl
@[simp] theorem State.latch_y (s : State) (w : Word) : (s.latch w).y = s.y := rfl
@[simp] theorem State.latch_written (s : State) (w : Word) : (s.latch w).written = s.written := rfl
@[simp] theorem State.latch_late (s : State) (w : Word) : (s.latch w).late = s.late := rfl
@[simp] theorem State.latch_annul (s : State) (w : Word) : (s.latch w).annul = s.annul := rfl
@[simp] theorem State.latch_prev (s : State) (w : Word) : (s.latch w).prev = s.prev := rfl
@[simp] theorem State.latch_mode (s : State) (w : Word) : (s.latch w).mode = s.mode := rfl
@[simp] theorem State.latch_pfcSum (s : State) (w : Word) : (s.latch w).pfcSum = (if s.pins.flowEnabled && s.countsInFlow w then s.pfcSum ^^^ w else s.pfcSum) := rfl
@[simp] theorem State.latch_pfcSkip (s : State) (w : Word) : (s.latch w).pfcSkip = s.pfcSkip := rfl
@[simp] theorem State.latch_ir (s : State) (w : Word) : (s.latch w).ir = w := rfl
@[simp] theorem State.latch_fpu (s : State) (w : Word) : (s.latch w).fpu = s.fpu := rfl
@[simp] theorem State.latch_cp (s : State) (w : Word) : (s.latch w).cp = s.cp := rfl
@[simp] theorem State.latch_mem (s : State) (w : Word) : (s.latch w).mem = s.mem := rfl
@[simp] theorem State.latch_mexc (s : State) (w : Word) : (s.latch w).mexc = s.mexc := rfl
@[simp] theorem State.latch_asiSpaces (s : State) (w : Word) : (s.latch w).asiSpaces = s.asiSpaces := rfl
@[simp] theorem State.latch_pins (s : State) (w : Word) : (s.latch w).pins = s.pins := rfl
@[simp] theorem State.latch_params (s : State) (w : Word) : (s.latch w).params = s.params := rfl
@[simp] theorem State.latch_irl (s : State) (w : Word) : (s.latch w).irl = s.irl := rfl
@[simp] theorem State.latch_board (s : State) (w : Word) : (s.latch w).board = s.board := rfl
@[simp] theorem State.latch_recent (s : State) (w : Word) : (s.latch w).recent = tickStores s.recent := rfl
@[simp] theorem State.latch_intack (s : State) (w : Word) : (s.latch w).intack = s.intack := rfl
@[simp] theorem State.latch_hwerror (s : State) (w : Word) : (s.latch w).hwerror = s.hwerror := rfl

/-! ### Late writes of the control registers -/

@[simp] theorem State.setControls_controls (s : State) : s.setControls s.controls = s := rfl

@[simp] theorem State.controls_setControls (s : State) (c : Controls) : (s.setControls c).controls = c := rfl

@[simp] theorem Controls.writeAll_nil (c : Controls) : c.writeAll [] = c := rfl

@[simp] theorem Controls.writeAll_cons (c : Controls) (l : LateWrite) (ws : List LateWrite) :
    c.writeAll (l :: ws) = (c.write l.write).writeAll ws := rfl

/-- With nothing late a trap finds the control registers as they are. -/
theorem State.settleLate_of_nil (s : State) (h : s.late = []) : s.settleLate = s := by
  cases s
  simp_all [State.settleLate, State.setControls, State.controls]

/-- With nothing late a boundary changes no control register. -/
theorem State.tickLate_of_nil (s : State) (h : s.late = []) : s.tickLate = s := by
  cases s
  simp_all [State.tickLate, State.setControls, State.controls]

/-- A write with no delay is seen at once. -/
theorem State.writeControl_now (s : State) (w : ControlWrite) (h : s.params.wrDelay = 0) :
    s.writeControl w = s.setControls (s.controls.write w) := by
  simp only [State.writeControl, h, if_true]
  rfl

/-- A write with a delay is the last of the late ones. -/
theorem State.writeControl_late_of_ne (s : State) (w : ControlWrite) (h : s.params.wrDelay ≠ 0) :
    s.writeControl w = { s with late := s.late ++ [{ left := s.params.wrDelay.val, write := w }] } := by
  simp only [State.writeControl, h, if_false]
  rfl

/-! ### Units -/

@[simp] theorem State.setUnit_unit (s : State) (u : UnitId) (x : CoUnit) : (s.setUnit u x).unit u = x := by
  cases u <;> rfl

theorem State.setUnit_self (s : State) (u : UnitId) : s.setUnit u (s.unit u) = s := by cases u <;> rfl

end Sys2Proof.Machine
end

