-- ==== Sys2Proof/Laws/Memory.lean ====
section
/-! SUPPORT. Memory: reading after writing, and the canonical form, which every memory operation keeps. -/

namespace Sys2Proof.Machine

/-! ## One byte -/

theorem Memory.read_of_lt_all (m : Memory) (k : Nat) (h : ∀ c ∈ m, k < c.1) : m.read k = unlistedByte := by
  induction m with
  | nil => rfl
  | cons c m ih =>
    have hc := h c (by simp)
    simp only [Memory.read]
    rw [if_neg (by omega)]
    exact ih fun d hd => h d (by simp [hd])

theorem Memory.wf_cons (c : Host.Cell) (m : Memory) :
    Memory.wf (c :: m) = true ↔ c.2 ≠ unlistedByte ∧ (∀ d ∈ m, c.1 < d.1) ∧ m.wf = true := by
  simp [Memory.wf, Bool.and_eq_true, and_assoc]

theorem Memory.read_consCell (k j : Nat) (b : Byte) (m : Memory) (h : ∀ c ∈ m, k < c.1) :
    (Memory.consCell k b m).read j = if j = k then b else m.read j := by
  unfold Memory.consCell
  by_cases hb : b = unlistedByte
  · by_cases hj : j = k
    · subst hj; simp [hb, Memory.read_of_lt_all m j h]
    · simp [hb, hj]
  · simp only [if_neg hb, Memory.read]
    by_cases hj : j = k
    · simp [hj]
    · rw [if_neg (fun h => hj h.symm), if_neg hj]

/-- Everything a write of a byte does to a read of one. -/
theorem Memory.read_write (m : Memory) (k j : Nat) (b : Byte) (h : m.wf = true) :
    (m.write k b).read j = if j = k then b else m.read j := by
  induction m with
  | nil => exact Memory.read_consCell k j b [] (by simp)
  | cons c m ih =>
    rw [Memory.wf_cons] at h
    obtain ⟨-, hlt, hm⟩ := h
    simp only [Memory.write]
    split
    · rename_i hk
      refine Memory.read_consCell k j b (c :: m) fun d hd => ?_
      rcases List.mem_cons.1 hd with rfl | hd
      · exact hk
      · exact Nat.lt_trans hk (hlt d hd)
    · split
      · rename_i hk
        subst hk
        rw [Memory.read_consCell c.1 j b m hlt]
        simp only [Memory.read]
        by_cases hj : j = c.1
        · simp [hj]
        · rw [if_neg hj, if_neg hj, if_neg (fun h => hj h.symm)]
      · rename_i hk
        simp only [Memory.read, ih hm]
        by_cases hj : c.1 = j
        · subst hj; simp [hk]
        · simp [hj]

theorem Memory.mem_write (m : Memory) (k : Nat) (b : Byte) (d : Host.Cell) :
    d ∈ m.write k b → d = (k, b) ∨ d ∈ m := by
  have hcons : ∀ m' : Memory, d ∈ Memory.consCell k b m' → d = (k, b) ∨ d ∈ m' := by
    intro m' hd
    unfold Memory.consCell at hd
    split at hd
    · exact .inr hd
    · simpa using hd
  induction m with
  | nil => exact hcons []
  | cons c m ih =>
    simp only [Memory.write]
    split
    · exact hcons _
    · split
      · intro hd
        rcases hcons _ hd with h | h
        · exact .inl h
        · exact .inr (by simp [h])
      · intro hd
        rcases List.mem_cons.1 hd with rfl | hd
        · exact .inr (by simp)
        · rcases ih hd with h | h
          · exact .inl h
          · exact .inr (by simp [h])

theorem Memory.wf_consCell (k : Nat) (b : Byte) (m : Memory) (hlt : ∀ c ∈ m, k < c.1) (h : m.wf = true) :
    (Memory.consCell k b m).wf = true := by
  unfold Memory.consCell
  split
  · exact h
  · rename_i hb
    exact (Memory.wf_cons _ _).2 ⟨hb, hlt, h⟩

/-- A write keeps the canonical form. -/
theorem Memory.wf_write (m : Memory) (k : Nat) (b : Byte) (h : m.wf = true) : (m.write k b).wf = true := by
  induction m with
  | nil => exact Memory.wf_consCell k b [] (by simp) rfl
  | cons c m ih =>
    obtain ⟨hb, hlt, hm⟩ := (Memory.wf_cons c m).1 h
    simp only [Memory.write]
    split
    · rename_i hk
      refine Memory.wf_consCell k b (c :: m) (fun d hd => ?_) h
      rcases List.mem_cons.1 hd with rfl | hd
      · exact hk
      · exact Nat.lt_trans hk (hlt d hd)
    · split
      · rename_i hk
        subst hk
        exact Memory.wf_consCell c.1 b m hlt hm
      · rename_i h1 h2
        refine (Memory.wf_cons _ _).2 ⟨hb, fun d hd => ?_, ih hm⟩
        rcases Memory.mem_write m k b d hd with rfl | hd
        · show c.1 < k
          omega
        · exact hlt d hd

/-! ## Bytes in a row, and the other memory operations -/

theorem Memory.wf_writeBytes (m : Memory) (asi : Asi) (a : Word) (bs : List Byte) (h : m.wf = true) :
    (m.writeBytes asi a bs).wf = true := by
  induction bs generalizing m a with
  | nil => exact h
  | cons b bs ih => exact ih _ _ (Memory.wf_write _ _ _ h)

theorem Memory.wf_restore (m : Memory) (old : List Host.Cell) (h : m.wf = true) : (m.restore old).wf = true := by
  unfold Memory.restore
  induction old generalizing m with
  | nil => exact h
  | cons c old ih => exact ih _ (Memory.wf_write _ _ _ h)

theorem State.wf_store (s : State) (asi : Asi) (a : Word) (bs : List Byte) (h : s.mem.wf = true) :
    (s.store asi a bs).mem.wf = true :=
  Memory.wf_writeBytes _ _ _ _ h

theorem State.wf_busWrites (ws : List BusWrite) (s : State) (h : s.mem.wf = true) :
    (ws.foldl State.busWrite s).mem.wf = true := by
  induction ws generalizing s with
  | nil => exact h
  | cons w ws ih => exact ih _ (State.wf_store _ _ _ _ h)

theorem State.wf_memBefore (s : State) (n : Nat) (h : s.mem.wf = true) : (s.memBefore n).wf = true := by
  unfold State.memBefore
  generalize s.recent.take n = rs
  generalize s.mem = m at h
  induction rs generalizing m with
  | nil => exact h
  | cons r rs ih => exact ih _ (Memory.wf_restore _ _ h)

/-- A byte outside the bytes written reads as before. -/
theorem Memory.read_writeBytes_outside (m : Memory) (asi : Asi) (a : Word) (bs : List Byte) (k : Nat)
    (hm : m.wf = true) (h : ∀ j : Nat, j < bs.length → k ≠ memKey asi (a + BitVec.ofNat 32 j)) :
    (m.writeBytes asi a bs).read k = m.read k := by
  induction bs generalizing m a with
  | nil => rfl
  | cons b bs ih =>
    have h0 := h 0 (by simp)
    simp only [BitVec.add_zero] at h0
    rw [Memory.writeBytes, ih _ _ (Memory.wf_write _ _ _ hm) fun j hj => ?_, Memory.read_write _ _ _ _ hm, if_neg h0]
    have := h (j + 1) (by simpa using hj)
    rwa [show a + BitVec.ofNat 32 (j + 1) = a + 1#32 + BitVec.ofNat 32 j by
      rw [BitVec.add_assoc, ← BitVec.ofNat_add, Nat.add_comm]] at this

theorem memKey_injective (asi : Asi) (a b : Word) (h : memKey asi a = memKey asi b) : a = b := by
  unfold memKey at h
  exact BitVec.eq_of_toNat_eq (by omega)

/-- A byte written reads as written, as long as the bytes do not wrap around onto one another. -/
theorem Memory.read_writeBytes_inside (m : Memory) (asi : Asi) (a : Word) (bs : List Byte) (j : Nat)
    (hm : m.wf = true) (hj : j < bs.length) (hlen : bs.length ≤ 2 ^ 32) :
    (m.writeBytes asi a bs).read (memKey asi (a + BitVec.ofNat 32 j)) = bs[j] := by
  induction bs generalizing m a j with
  | nil => simp at hj
  | cons b bs ih =>
    rw [Memory.writeBytes]
    rcases j with _ | j
    · rw [Memory.read_writeBytes_outside _ _ _ _ _ (Memory.wf_write _ _ _ hm), Memory.read_write _ _ _ _ hm]
      · simp
      · intro i hi h
        have h := memKey_injective _ _ _ h
        simp only [BitVec.add_assoc] at h
        have h := congrArg BitVec.toNat (BitVec.add_right_inj a |>.1 h)
        simp only [List.length_cons] at hlen
        simp only [BitVec.toNat_ofNat, BitVec.toNat_add] at h
        omega
    · have := ih (m.write (memKey asi a) b) (a + 1#32) j (Memory.wf_write _ _ _ hm) (by simpa using hj)
        (by simp only [List.length_cons] at hlen; omega)
      rwa [show a + BitVec.ofNat 32 (j + 1) = a + 1#32 + BitVec.ofNat 32 j by
        rw [BitVec.add_assoc, ← BitVec.ofNat_add, Nat.add_comm]]

/-- The cells at an address and those after it, one by one. -/
theorem Memory.cellsAt_eq (m : Memory) (asi : Asi) (a : Word) (bs : List Byte) :
    m.cellsAt asi a bs = (List.range bs.length).map fun j =>
      (memKey asi (a + BitVec.ofNat 32 j), m.read (memKey asi (a + BitVec.ofNat 32 j))) := by
  induction bs generalizing a with
  | nil => rfl
  | cons b bs ih =>
    simp only [Memory.cellsAt, ih, List.length_cons, List.range_succ_eq_map, List.map_cons, List.map_map, BitVec.add_zero]
    congr 1
    refine List.map_congr_left fun j _ => ?_
    simp only [Function.comp_apply, Nat.succ_eq_add_one, show a + BitVec.ofNat 32 (j + 1) = a + 1#32 + BitVec.ofNat 32 j by
      rw [BitVec.add_assoc, ← BitVec.ofNat_add, Nat.add_comm]]

/-- The record a store leaves for the prefetch path. -/
theorem State.store_recent_eq (s : State) (asi : Asi) (a : Word) (bs : List Byte) :
    (s.store asi a bs).recent = storeRecord s asi a bs.length :: s.recent := by
  simp [State.store, storeRecord, Memory.cellsAt_eq, State.readByte]

/-- A store of bytes is the frame `StoresBytes` says. -/
theorem storesBytes_store (s : State) (asi : Asi) (a : Word) (bs : List Byte) (hm : s.mem.wf = true)
    (hlen : bs.length ≤ 2 ^ 32) : StoresBytes s (s.store asi a bs) asi a bs :=
  ⟨fun j h => Memory.read_writeBytes_inside s.mem asi a bs j hm h hlen,
    fun asi' a' h => Memory.read_writeBytes_outside s.mem asi a bs (memKey asi' a') hm h, s.store_recent_eq asi a bs⟩

end Sys2Proof.Machine
end

