-- ==== Sys2Proof/Laws/PerInstr.lean ====
section
/-! SUPPORT. Statements per instruction, one lemma per constructor of `Instr`. The family EncodeRow: the encoder's word
of an instruction has the fixed bits that its row of spec/opcode_table.json gives it. -/

namespace Sys2Proof.Laws

/-- The mask and match words of an instruction's row of the opcode table. -/
def tableRow : Instr → Word × Word
  | .ld _ _ _ => (0xC1F80000#32, 0xC0000000#32)
  | .ldub _ _ _ => (0xC1F80000#32, 0xC0080000#32)
  | .lduh _ _ _ => (0xC1F80000#32, 0xC0100000#32)
  | .ldd _ _ _ => (0xC1F80000#32, 0xC0180000#32)
  | .st _ _ _ => (0xC1F80000#32, 0xC0200000#32)
  | .stb _ _ _ => (0xC1F80000#32, 0xC0280000#32)
  | .sth _ _ _ => (0xC1F80000#32, 0xC0300000#32)
  | .std _ _ _ => (0xC1F80000#32, 0xC0380000#32)
  | .ldsb _ _ _ => (0xC1F80000#32, 0xC0480000#32)
  | .ldsh _ _ _ => (0xC1F80000#32, 0xC0500000#32)
  | .ldstub _ _ _ => (0xC1F80000#32, 0xC0680000#32)
  | .swap _ _ _ => (0xC1F80000#32, 0xC0780000#32)
  | .lda _ _ _ => (0xC1F80000#32, 0xC0800000#32)
  | .lduba _ _ _ => (0xC1F80000#32, 0xC0880000#32)
  | .lduha _ _ _ => (0xC1F80000#32, 0xC0900000#32)
  | .ldda _ _ _ => (0xC1F80000#32, 0xC0980000#32)
  | .sta _ _ _ => (0xC1F80000#32, 0xC0A00000#32)
  | .stba _ _ _ => (0xC1F80000#32, 0xC0A80000#32)
  | .stha _ _ _ => (0xC1F80000#32, 0xC0B00000#32)
  | .stda _ _ _ => (0xC1F80000#32, 0xC0B80000#32)
  | .ldsba _ _ _ => (0xC1F80000#32, 0xC0C80000#32)
  | .ldsha _ _ _ => (0xC1F80000#32, 0xC0D00000#32)
  | .ldstuba _ _ _ => (0xC1F80000#32, 0xC0E80000#32)
  | .swapa _ _ _ => (0xC1F80000#32, 0xC0F80000#32)
  | .ldf _ _ _ => (0xC1F80000#32, 0xC1000000#32)
  | .ldfsr _ _ => (0xC1F80000#32, 0xC1080000#32)
  | .lddf _ _ _ => (0xC1F80000#32, 0xC1180000#32)
  | .stf _ _ _ => (0xC1F80000#32, 0xC1200000#32)
  | .stfsr _ _ => (0xC1F80000#32, 0xC1280000#32)
  | .stdfq _ _ => (0xC1F80000#32, 0xC1300000#32)
  | .stdf _ _ _ => (0xC1F80000#32, 0xC1380000#32)
  | .ldc _ _ _ => (0xC1F80000#32, 0xC1800000#32)
  | .ldcsr _ _ => (0xC1F80000#32, 0xC1880000#32)
  | .lddc _ _ _ => (0xC1F80000#32, 0xC1980000#32)
  | .stc _ _ _ => (0xC1F80000#32, 0xC1A00000#32)
  | .stcsr _ _ => (0xC1F80000#32, 0xC1A80000#32)
  | .stdcq _ _ => (0xC1F80000#32, 0xC1B00000#32)
  | .stdc _ _ _ => (0xC1F80000#32, 0xC1B80000#32)
  | .add _ _ _ => (0xC1F80000#32, 0x80000000#32)
  | .and _ _ _ => (0xC1F80000#32, 0x80080000#32)
  | .or _ _ _ => (0xC1F80000#32, 0x80100000#32)
  | .xor _ _ _ => (0xC1F80000#32, 0x80180000#32)
  | .sub _ _ _ => (0xC1F80000#32, 0x80200000#32)
  | .andn _ _ _ => (0xC1F80000#32, 0x80280000#32)
  | .orn _ _ _ => (0xC1F80000#32, 0x80300000#32)
  | .xnor _ _ _ => (0xC1F80000#32, 0x80380000#32)
  | .addx _ _ _ => (0xC1F80000#32, 0x80400000#32)
  | .subx _ _ _ => (0xC1F80000#32, 0x80600000#32)
  | .addcc _ _ _ => (0xC1F80000#32, 0x80800000#32)
  | .andcc _ _ _ => (0xC1F80000#32, 0x80880000#32)
  | .orcc _ _ _ => (0xC1F80000#32, 0x80900000#32)
  | .xorcc _ _ _ => (0xC1F80000#32, 0x80980000#32)
  | .subcc _ _ _ => (0xC1F80000#32, 0x80A00000#32)
  | .andncc _ _ _ => (0xC1F80000#32, 0x80A80000#32)
  | .orncc _ _ _ => (0xC1F80000#32, 0x80B00000#32)
  | .xnorcc _ _ _ => (0xC1F80000#32, 0x80B80000#32)
  | .addxcc _ _ _ => (0xC1F80000#32, 0x80C00000#32)
  | .subxcc _ _ _ => (0xC1F80000#32, 0x80E00000#32)
  | .taddcc _ _ _ => (0xC1F80000#32, 0x81000000#32)
  | .tsubcc _ _ _ => (0xC1F80000#32, 0x81080000#32)
  | .taddcctv _ _ _ => (0xC1F80000#32, 0x81100000#32)
  | .tsubcctv _ _ _ => (0xC1F80000#32, 0x81180000#32)
  | .mulscc _ _ _ => (0xC1F80000#32, 0x81200000#32)
  | .sll _ _ _ => (0xC1F80000#32, 0x81280000#32)
  | .srl _ _ _ => (0xC1F80000#32, 0x81300000#32)
  | .sra _ _ _ => (0xC1F80000#32, 0x81380000#32)
  | .sethi _ _ => (0xC1C00000#32, 0x01000000#32)
  | .bn _ _ => (0xDFC00000#32, 0x00800000#32)
  | .be _ _ => (0xDFC00000#32, 0x02800000#32)
  | .ble _ _ => (0xDFC00000#32, 0x04800000#32)
  | .bl _ _ => (0xDFC00000#32, 0x06800000#32)
  | .bleu _ _ => (0xDFC00000#32, 0x08800000#32)
  | .bcs _ _ => (0xDFC00000#32, 0x0A800000#32)
  | .bneg _ _ => (0xDFC00000#32, 0x0C800000#32)
  | .bvs _ _ => (0xDFC00000#32, 0x0E800000#32)
  | .ba _ _ => (0xDFC00000#32, 0x10800000#32)
  | .bne _ _ => (0xDFC00000#32, 0x12800000#32)
  | .bg _ _ => (0xDFC00000#32, 0x14800000#32)
  | .bge _ _ => (0xDFC00000#32, 0x16800000#32)
  | .bgu _ _ => (0xDFC00000#32, 0x18800000#32)
  | .bcc _ _ => (0xDFC00000#32, 0x1A800000#32)
  | .bpos _ _ => (0xDFC00000#32, 0x1C800000#32)
  | .bvc _ _ => (0xDFC00000#32, 0x1E800000#32)
  | .fbn _ _ => (0xDFC00000#32, 0x01800000#32)
  | .fbne _ _ => (0xDFC00000#32, 0x03800000#32)
  | .fblg _ _ => (0xDFC00000#32, 0x05800000#32)
  | .fbul _ _ => (0xDFC00000#32, 0x07800000#32)
  | .fbl _ _ => (0xDFC00000#32, 0x09800000#32)
  | .fbug _ _ => (0xDFC00000#32, 0x0B800000#32)
  | .fbg _ _ => (0xDFC00000#32, 0x0D800000#32)
  | .fbu _ _ => (0xDFC00000#32, 0x0F800000#32)
  | .fba _ _ => (0xDFC00000#32, 0x11800000#32)
  | .fbe _ _ => (0xDFC00000#32, 0x13800000#32)
  | .fbue _ _ => (0xDFC00000#32, 0x15800000#32)
  | .fbge _ _ => (0xDFC00000#32, 0x17800000#32)
  | .fbuge _ _ => (0xDFC00000#32, 0x19800000#32)
  | .fble _ _ => (0xDFC00000#32, 0x1B800000#32)
  | .fbule _ _ => (0xDFC00000#32, 0x1D800000#32)
  | .fbo _ _ => (0xDFC00000#32, 0x1F800000#32)
  | .cbn _ _ => (0xDFC00000#32, 0x01C00000#32)
  | .cb123 _ _ => (0xDFC00000#32, 0x03C00000#32)
  | .cb12 _ _ => (0xDFC00000#32, 0x05C00000#32)
  | .cb13 _ _ => (0xDFC00000#32, 0x07C00000#32)
  | .cb1 _ _ => (0xDFC00000#32, 0x09C00000#32)
  | .cb23 _ _ => (0xDFC00000#32, 0x0BC00000#32)
  | .cb2 _ _ => (0xDFC00000#32, 0x0DC00000#32)
  | .cb3 _ _ => (0xDFC00000#32, 0x0FC00000#32)
  | .cba _ _ => (0xDFC00000#32, 0x11C00000#32)
  | .cb0 _ _ => (0xDFC00000#32, 0x13C00000#32)
  | .cb03 _ _ => (0xDFC00000#32, 0x15C00000#32)
  | .cb02 _ _ => (0xDFC00000#32, 0x17C00000#32)
  | .cb023 _ _ => (0xDFC00000#32, 0x19C00000#32)
  | .cb01 _ _ => (0xDFC00000#32, 0x1BC00000#32)
  | .cb013 _ _ => (0xDFC00000#32, 0x1DC00000#32)
  | .cb012 _ _ => (0xDFC00000#32, 0x1FC00000#32)
  | .call _ => (0xC0000000#32, 0x40000000#32)
  | .jmpl _ _ _ => (0xC1F80000#32, 0x81C00000#32)
  | .rett _ _ => (0xC1F80000#32, 0x81C80000#32)
  | .tn _ _ => (0xDFF80000#32, 0x81D00000#32)
  | .te _ _ => (0xDFF80000#32, 0x83D00000#32)
  | .tle _ _ => (0xDFF80000#32, 0x85D00000#32)
  | .tl _ _ => (0xDFF80000#32, 0x87D00000#32)
  | .tleu _ _ => (0xDFF80000#32, 0x89D00000#32)
  | .tcs _ _ => (0xDFF80000#32, 0x8BD00000#32)
  | .tneg _ _ => (0xDFF80000#32, 0x8DD00000#32)
  | .tvs _ _ => (0xDFF80000#32, 0x8FD00000#32)
  | .ta _ _ => (0xDFF80000#32, 0x91D00000#32)
  | .tne _ _ => (0xDFF80000#32, 0x93D00000#32)
  | .tg _ _ => (0xDFF80000#32, 0x95D00000#32)
  | .tge _ _ => (0xDFF80000#32, 0x97D00000#32)
  | .tgu _ _ => (0xDFF80000#32, 0x99D00000#32)
  | .tcc _ _ => (0xDFF80000#32, 0x9BD00000#32)
  | .tpos _ _ => (0xDFF80000#32, 0x9DD00000#32)
  | .tvc _ _ => (0xDFF80000#32, 0x9FD00000#32)
  | .save _ _ _ => (0xC1F80000#32, 0x81E00000#32)
  | .restore _ _ _ => (0xC1F80000#32, 0x81E80000#32)
  | .rdy _ => (0xC1F80000#32, 0x81400000#32)
  | .rdpsr _ => (0xC1F80000#32, 0x81480000#32)
  | .rdwim _ => (0xC1F80000#32, 0x81500000#32)
  | .rdtbr _ => (0xC1F80000#32, 0x81580000#32)
  | .wry _ _ => (0xC1F80000#32, 0x81800000#32)
  | .wrpsr _ _ => (0xC1F80000#32, 0x81880000#32)
  | .wrwim _ _ => (0xC1F80000#32, 0x81900000#32)
  | .wrtbr _ _ => (0xC1F80000#32, 0x81980000#32)
  | .fmovs _ _ => (0xC1F83FE0#32, 0x81A00020#32)
  | .fnegs _ _ => (0xC1F83FE0#32, 0x81A000A0#32)
  | .fabss _ _ => (0xC1F83FE0#32, 0x81A00120#32)
  | .fsqrts _ _ => (0xC1F83FE0#32, 0x81A00520#32)
  | .fsqrtd _ _ => (0xC1F83FE0#32, 0x81A00540#32)
  | .fsqrtx _ _ => (0xC1F83FE0#32, 0x81A00560#32)
  | .fadds _ _ _ => (0xC1F83FE0#32, 0x81A00820#32)
  | .faddd _ _ _ => (0xC1F83FE0#32, 0x81A00840#32)
  | .faddx _ _ _ => (0xC1F83FE0#32, 0x81A00860#32)
  | .fsubs _ _ _ => (0xC1F83FE0#32, 0x81A008A0#32)
  | .fsubd _ _ _ => (0xC1F83FE0#32, 0x81A008C0#32)
  | .fsubx _ _ _ => (0xC1F83FE0#32, 0x81A008E0#32)
  | .fmuls _ _ _ => (0xC1F83FE0#32, 0x81A00920#32)
  | .fmuld _ _ _ => (0xC1F83FE0#32, 0x81A00940#32)
  | .fmulx _ _ _ => (0xC1F83FE0#32, 0x81A00960#32)
  | .fdivs _ _ _ => (0xC1F83FE0#32, 0x81A009A0#32)
  | .fdivd _ _ _ => (0xC1F83FE0#32, 0x81A009C0#32)
  | .fdivx _ _ _ => (0xC1F83FE0#32, 0x81A009E0#32)
  | .fitos _ _ => (0xC1F83FE0#32, 0x81A01880#32)
  | .fdtos _ _ => (0xC1F83FE0#32, 0x81A018C0#32)
  | .fxtos _ _ => (0xC1F83FE0#32, 0x81A018E0#32)
  | .fitod _ _ => (0xC1F83FE0#32, 0x81A01900#32)
  | .fstod _ _ => (0xC1F83FE0#32, 0x81A01920#32)
  | .fxtod _ _ => (0xC1F83FE0#32, 0x81A01960#32)
  | .fitox _ _ => (0xC1F83FE0#32, 0x81A01980#32)
  | .fstox _ _ => (0xC1F83FE0#32, 0x81A019A0#32)
  | .fdtox _ _ => (0xC1F83FE0#32, 0x81A019C0#32)
  | .fstoi _ _ => (0xC1F83FE0#32, 0x81A01A20#32)
  | .fdtoi _ _ => (0xC1F83FE0#32, 0x81A01A40#32)
  | .fxtoi _ _ => (0xC1F83FE0#32, 0x81A01A60#32)
  | .fcmps _ _ => (0xC1F83FE0#32, 0x81A80A20#32)
  | .fcmpd _ _ => (0xC1F83FE0#32, 0x81A80A40#32)
  | .fcmpx _ _ => (0xC1F83FE0#32, 0x81A80A60#32)
  | .fcmpes _ _ => (0xC1F83FE0#32, 0x81A80AA0#32)
  | .fcmped _ _ => (0xC1F83FE0#32, 0x81A80AC0#32)
  | .fcmpex _ _ => (0xC1F83FE0#32, 0x81A80AE0#32)
  | .fpop1Reserved _ _ _ _ => (0xC1F80000#32, 0x81A00000#32)
  | .fpop2Reserved _ _ _ _ => (0xC1F80000#32, 0x81A80000#32)
  | .cpop1 _ _ _ _ => (0xC1F80000#32, 0x81B00000#32)
  | .cpop2 _ _ _ _ => (0xC1F80000#32, 0x81B80000#32)
  | .unimp _ => (0xC1C00000#32, 0x00000000#32)
  | .iflush _ _ => (0xC1F80000#32, 0x81D80000#32)
  | .reservedOp00_001 => (0xC1C00000#32, 0x00400000#32)
  | .reservedOp00_011 => (0xC1C00000#32, 0x00C00000#32)
  | .reservedOp00_101 => (0xC1C00000#32, 0x01400000#32)
  | .reservedOp10_001001 => (0xC1F80000#32, 0x80480000#32)
  | .reservedOp10_001010 => (0xC1F80000#32, 0x80500000#32)
  | .reservedOp10_001011 => (0xC1F80000#32, 0x80580000#32)
  | .reservedOp10_001101 => (0xC1F80000#32, 0x80680000#32)
  | .reservedOp10_001110 => (0xC1F80000#32, 0x80700000#32)
  | .reservedOp10_001111 => (0xC1F80000#32, 0x80780000#32)
  | .reservedOp10_011001 => (0xC1F80000#32, 0x80C80000#32)
  | .reservedOp10_011010 => (0xC1F80000#32, 0x80D00000#32)
  | .reservedOp10_011011 => (0xC1F80000#32, 0x80D80000#32)
  | .reservedOp10_011101 => (0xC1F80000#32, 0x80E80000#32)
  | .reservedOp10_011110 => (0xC1F80000#32, 0x80F00000#32)
  | .reservedOp10_011111 => (0xC1F80000#32, 0x80F80000#32)
  | .reservedOp10_101100 => (0xC1F80000#32, 0x81600000#32)
  | .reservedOp10_101101 => (0xC1F80000#32, 0x81680000#32)
  | .reservedOp10_101110 => (0xC1F80000#32, 0x81700000#32)
  | .reservedOp10_101111 => (0xC1F80000#32, 0x81780000#32)
  | .reservedOp10_111110 => (0xC1F80000#32, 0x81F00000#32)
  | .reservedOp10_111111 => (0xC1F80000#32, 0x81F80000#32)
  | .reservedOp11_001000 => (0xC1F80000#32, 0xC0400000#32)
  | .reservedOp11_001011 => (0xC1F80000#32, 0xC0580000#32)
  | .reservedOp11_001100 => (0xC1F80000#32, 0xC0600000#32)
  | .reservedOp11_001110 => (0xC1F80000#32, 0xC0700000#32)
  | .reservedOp11_011000 => (0xC1F80000#32, 0xC0C00000#32)
  | .reservedOp11_011011 => (0xC1F80000#32, 0xC0D80000#32)
  | .reservedOp11_011100 => (0xC1F80000#32, 0xC0E00000#32)
  | .reservedOp11_011110 => (0xC1F80000#32, 0xC0F00000#32)
  | .reservedOp11_100010 => (0xC1F80000#32, 0xC1100000#32)
  | .reservedOp11_101000 => (0xC1F80000#32, 0xC1400000#32)
  | .reservedOp11_101001 => (0xC1F80000#32, 0xC1480000#32)
  | .reservedOp11_101010 => (0xC1F80000#32, 0xC1500000#32)
  | .reservedOp11_101011 => (0xC1F80000#32, 0xC1580000#32)
  | .reservedOp11_101100 => (0xC1F80000#32, 0xC1600000#32)
  | .reservedOp11_101101 => (0xC1F80000#32, 0xC1680000#32)
  | .reservedOp11_101110 => (0xC1F80000#32, 0xC1700000#32)
  | .reservedOp11_101111 => (0xC1F80000#32, 0xC1780000#32)
  | .reservedOp11_110010 => (0xC1F80000#32, 0xC1900000#32)
  | .reservedOp11_111000 => (0xC1F80000#32, 0xC1C00000#32)
  | .reservedOp11_111001 => (0xC1F80000#32, 0xC1C80000#32)
  | .reservedOp11_111010 => (0xC1F80000#32, 0xC1D00000#32)
  | .reservedOp11_111011 => (0xC1F80000#32, 0xC1D80000#32)
  | .reservedOp11_111100 => (0xC1F80000#32, 0xC1E00000#32)
  | .reservedOp11_111101 => (0xC1F80000#32, 0xC1E80000#32)
  | .reservedOp11_111110 => (0xC1F80000#32, 0xC1F00000#32)
  | .reservedOp11_111111 => (0xC1F80000#32, 0xC1F80000#32)

/-! ## The fixed bits of each format -/

theorem fixed_format3 (op : BitVec 2) (rd : RegNum) (op3 : BitVec 6) (rs1 : RegNum) (low : BitVec 14) :
    format3 op rd op3 rs1 low &&& 0xC1F80000#32 = format3 op 0#5 op3 0#5 0#14 := by
  apply BitVec.eq_of_getLsbD_eq
  intro i hi
  simp only [format3, BitVec.getLsbD_and, BitVec.getLsbD_append]
  interval_cases i <;> simp

theorem fixed_opf (op : BitVec 2) (rd : RegNum) (op3 : BitVec 6) (rs1 : RegNum) (opf : BitVec 9) (rs2 : RegNum) :
    format3 op rd op3 rs1 (opfLow opf rs2) &&& 0xC1F83FE0#32 = format3 op 0#5 op3 0#5 (opfLow opf 0#5) := by
  apply BitVec.eq_of_getLsbD_eq
  intro i hi
  simp only [format3, opfLow, BitVec.getLsbD_and, BitVec.getLsbD_append]
  interval_cases i <;> simp

theorem fixed_ticc (op : BitVec 2) (cond : BitVec 4) (op3 : BitVec 6) (rs1 : RegNum) (low : BitVec 14) :
    format3 op (0#1 ++ cond) op3 rs1 low &&& 0xDFF80000#32 = format3 op (0#1 ++ cond) op3 0#5 0#14 := by
  apply BitVec.eq_of_getLsbD_eq
  intro i hi
  simp only [format3, BitVec.getLsbD_and, BitVec.getLsbD_append]
  interval_cases i <;> simp

theorem fixed_format2 (rd : RegNum) (op2 : BitVec 3) (imm22 : BitVec 22) :
    format2 rd op2 imm22 &&& 0xC1C00000#32 = format2 0#5 op2 0#22 := by
  apply BitVec.eq_of_getLsbD_eq
  intro i hi
  simp only [format2, BitVec.getLsbD_and, BitVec.getLsbD_append]
  interval_cases i <;> simp

theorem fixed_branch (a : Bool) (cond : BitVec 4) (op2 : BitVec 3) (disp22 : BitVec 22) :
    branchWord a cond op2 disp22 &&& 0xDFC00000#32 = branchWord false cond op2 0#22 := by
  apply BitVec.eq_of_getLsbD_eq
  intro i hi
  simp only [branchWord, format2, BitVec.getLsbD_and, BitVec.getLsbD_append]
  interval_cases i <;> simp

theorem fixed_format1 (disp30 : BitVec 30) :
    format1 disp30 &&& 0xC0000000#32 = format1 0#30 := by
  apply BitVec.eq_of_getLsbD_eq
  intro i hi
  simp only [format1, BitVec.getLsbD_and, BitVec.getLsbD_append]
  interval_cases i <;> simp

namespace EncodeRow

/-- The word of `i`, masked as its row of the opcode table says, is the row's match word. -/
def Statement (i : Instr) : Prop := encode i &&& (tableRow i).1 = (tableRow i).2

theorem ld (rd : RegNum) (rs1 : RegNum) (src : Operand2) : Statement (.ld rd rs1 src) := (fixed_format3 _ _ _ _ _).trans rfl
theorem ldub (rd : RegNum) (rs1 : RegNum) (src : Operand2) : Statement (.ldub rd rs1 src) := (fixed_format3 _ _ _ _ _).trans rfl
theorem lduh (rd : RegNum) (rs1 : RegNum) (src : Operand2) : Statement (.lduh rd rs1 src) := (fixed_format3 _ _ _ _ _).trans rfl
theorem ldd (rd : RegNum) (rs1 : RegNum) (src : Operand2) : Statement (.ldd rd rs1 src) := (fixed_format3 _ _ _ _ _).trans rfl
theorem st (rd : RegNum) (rs1 : RegNum) (src : Operand2) : Statement (.st rd rs1 src) := (fixed_format3 _ _ _ _ _).trans rfl
theorem stb (rd : RegNum) (rs1 : RegNum) (src : Operand2) : Statement (.stb rd rs1 src) := (fixed_format3 _ _ _ _ _).trans rfl
theorem sth (rd : RegNum) (rs1 : RegNum) (src : Operand2) : Statement (.sth rd rs1 src) := (fixed_format3 _ _ _ _ _).trans rfl
theorem std (rd : RegNum) (rs1 : RegNum) (src : Operand2) : Statement (.std rd rs1 src) := (fixed_format3 _ _ _ _ _).trans rfl
theorem ldsb (rd : RegNum) (rs1 : RegNum) (src : Operand2) : Statement (.ldsb rd rs1 src) := (fixed_format3 _ _ _ _ _).trans rfl
theorem ldsh (rd : RegNum) (rs1 : RegNum) (src : Operand2) : Statement (.ldsh rd rs1 src) := (fixed_format3 _ _ _ _ _).trans rfl
theorem ldstub (rd : RegNum) (rs1 : RegNum) (src : Operand2) : Statement (.ldstub rd rs1 src) := (fixed_format3 _ _ _ _ _).trans rfl
theorem swap (rd : RegNum) (rs1 : RegNum) (src : Operand2) : Statement (.swap rd rs1 src) := (fixed_format3 _ _ _ _ _).trans rfl
theorem lda (rd : RegNum) (rs1 : RegNum) (src : AltSource) : Statement (.lda rd rs1 src) := (fixed_format3 _ _ _ _ _).trans rfl
theorem lduba (rd : RegNum) (rs1 : RegNum) (src : AltSource) : Statement (.lduba rd rs1 src) := (fixed_format3 _ _ _ _ _).trans rfl
theorem lduha (rd : RegNum) (rs1 : RegNum) (src : AltSource) : Statement (.lduha rd rs1 src) := (fixed_format3 _ _ _ _ _).trans rfl
theorem ldda (rd : RegNum) (rs1 : RegNum) (src : AltSource) : Statement (.ldda rd rs1 src) := (fixed_format3 _ _ _ _ _).trans rfl
theorem sta (rd : RegNum) (rs1 : RegNum) (src : AltSource) : Statement (.sta rd rs1 src) := (fixed_format3 _ _ _ _ _).trans rfl
theorem stba (rd : RegNum) (rs1 : RegNum) (src : AltSource) : Statement (.stba rd rs1 src) := (fixed_format3 _ _ _ _ _).trans rfl
theorem stha (rd : RegNum) (rs1 : RegNum) (src : AltSource) : Statement (.stha rd rs1 src) := (fixed_format3 _ _ _ _ _).trans rfl
theorem stda (rd : RegNum) (rs1 : RegNum) (src : AltSource) : Statement (.stda rd rs1 src) := (fixed_format3 _ _ _ _ _).trans rfl
theorem ldsba (rd : RegNum) (rs1 : RegNum) (src : AltSource) : Statement (.ldsba rd rs1 src) := (fixed_format3 _ _ _ _ _).trans rfl
theorem ldsha (rd : RegNum) (rs1 : RegNum) (src : AltSource) : Statement (.ldsha rd rs1 src) := (fixed_format3 _ _ _ _ _).trans rfl
theorem ldstuba (rd : RegNum) (rs1 : RegNum) (src : AltSource) : Statement (.ldstuba rd rs1 src) := (fixed_format3 _ _ _ _ _).trans rfl
theorem swapa (rd : RegNum) (rs1 : RegNum) (src : AltSource) : Statement (.swapa rd rs1 src) := (fixed_format3 _ _ _ _ _).trans rfl
theorem ldf (rd : RegNum) (rs1 : RegNum) (src : Operand2) : Statement (.ldf rd rs1 src) := (fixed_format3 _ _ _ _ _).trans rfl
theorem ldfsr (rs1 : RegNum) (src : Operand2) : Statement (.ldfsr rs1 src) := (fixed_format3 _ _ _ _ _).trans rfl
theorem lddf (rd : RegNum) (rs1 : RegNum) (src : Operand2) : Statement (.lddf rd rs1 src) := (fixed_format3 _ _ _ _ _).trans rfl
theorem stf (rd : RegNum) (rs1 : RegNum) (src : Operand2) : Statement (.stf rd rs1 src) := (fixed_format3 _ _ _ _ _).trans rfl
theorem stfsr (rs1 : RegNum) (src : Operand2) : Statement (.stfsr rs1 src) := (fixed_format3 _ _ _ _ _).trans rfl
theorem stdfq (rs1 : RegNum) (src : Operand2) : Statement (.stdfq rs1 src) := (fixed_format3 _ _ _ _ _).trans rfl
theorem stdf (rd : RegNum) (rs1 : RegNum) (src : Operand2) : Statement (.stdf rd rs1 src) := (fixed_format3 _ _ _ _ _).trans rfl
theorem ldc (rd : RegNum) (rs1 : RegNum) (src : Operand2) : Statement (.ldc rd rs1 src) := (fixed_format3 _ _ _ _ _).trans rfl
theorem ldcsr (rs1 : RegNum) (src : Operand2) : Statement (.ldcsr rs1 src) := (fixed_format3 _ _ _ _ _).trans rfl
theorem lddc (rd : RegNum) (rs1 : RegNum) (src : Operand2) : Statement (.lddc rd rs1 src) := (fixed_format3 _ _ _ _ _).trans rfl
theorem stc (rd : RegNum) (rs1 : RegNum) (src : Operand2) : Statement (.stc rd rs1 src) := (fixed_format3 _ _ _ _ _).trans rfl
theorem stcsr (rs1 : RegNum) (src : Operand2) : Statement (.stcsr rs1 src) := (fixed_format3 _ _ _ _ _).trans rfl
theorem stdcq (rs1 : RegNum) (src : Operand2) : Statement (.stdcq rs1 src) := (fixed_format3 _ _ _ _ _).trans rfl
theorem stdc (rd : RegNum) (rs1 : RegNum) (src : Operand2) : Statement (.stdc rd rs1 src) := (fixed_format3 _ _ _ _ _).trans rfl
theorem add (rd : RegNum) (rs1 : RegNum) (src : Operand2) : Statement (.add rd rs1 src) := (fixed_format3 _ _ _ _ _).trans rfl
theorem and (rd : RegNum) (rs1 : RegNum) (src : Operand2) : Statement (.and rd rs1 src) := (fixed_format3 _ _ _ _ _).trans rfl
theorem or (rd : RegNum) (rs1 : RegNum) (src : Operand2) : Statement (.or rd rs1 src) := (fixed_format3 _ _ _ _ _).trans rfl
theorem xor (rd : RegNum) (rs1 : RegNum) (src : Operand2) : Statement (.xor rd rs1 src) := (fixed_format3 _ _ _ _ _).trans rfl
theorem sub (rd : RegNum) (rs1 : RegNum) (src : Operand2) : Statement (.sub rd rs1 src) := (fixed_format3 _ _ _ _ _).trans rfl
theorem andn (rd : RegNum) (rs1 : RegNum) (src : Operand2) : Statement (.andn rd rs1 src) := (fixed_format3 _ _ _ _ _).trans rfl
theorem orn (rd : RegNum) (rs1 : RegNum) (src : Operand2) : Statement (.orn rd rs1 src) := (fixed_format3 _ _ _ _ _).trans rfl
theorem xnor (rd : RegNum) (rs1 : RegNum) (src : Operand2) : Statement (.xnor rd rs1 src) := (fixed_format3 _ _ _ _ _).trans rfl
theorem addx (rd : RegNum) (rs1 : RegNum) (src : Operand2) : Statement (.addx rd rs1 src) := (fixed_format3 _ _ _ _ _).trans rfl
theorem subx (rd : RegNum) (rs1 : RegNum) (src : Operand2) : Statement (.subx rd rs1 src) := (fixed_format3 _ _ _ _ _).trans rfl
theorem addcc (rd : RegNum) (rs1 : RegNum) (src : Operand2) : Statement (.addcc rd rs1 src) := (fixed_format3 _ _ _ _ _).trans rfl
theorem andcc (rd : RegNum) (rs1 : RegNum) (src : Operand2) : Statement (.andcc rd rs1 src) := (fixed_format3 _ _ _ _ _).trans rfl
theorem orcc (rd : RegNum) (rs1 : RegNum) (src : Operand2) : Statement (.orcc rd rs1 src) := (fixed_format3 _ _ _ _ _).trans rfl
theorem xorcc (rd : RegNum) (rs1 : RegNum) (src : Operand2) : Statement (.xorcc rd rs1 src) := (fixed_format3 _ _ _ _ _).trans rfl
theorem subcc (rd : RegNum) (rs1 : RegNum) (src : Operand2) : Statement (.subcc rd rs1 src) := (fixed_format3 _ _ _ _ _).trans rfl
theorem andncc (rd : RegNum) (rs1 : RegNum) (src : Operand2) : Statement (.andncc rd rs1 src) := (fixed_format3 _ _ _ _ _).trans rfl
theorem orncc (rd : RegNum) (rs1 : RegNum) (src : Operand2) : Statement (.orncc rd rs1 src) := (fixed_format3 _ _ _ _ _).trans rfl
theorem xnorcc (rd : RegNum) (rs1 : RegNum) (src : Operand2) : Statement (.xnorcc rd rs1 src) := (fixed_format3 _ _ _ _ _).trans rfl
theorem addxcc (rd : RegNum) (rs1 : RegNum) (src : Operand2) : Statement (.addxcc rd rs1 src) := (fixed_format3 _ _ _ _ _).trans rfl
theorem subxcc (rd : RegNum) (rs1 : RegNum) (src : Operand2) : Statement (.subxcc rd rs1 src) := (fixed_format3 _ _ _ _ _).trans rfl
theorem taddcc (rd : RegNum) (rs1 : RegNum) (src : Operand2) : Statement (.taddcc rd rs1 src) := (fixed_format3 _ _ _ _ _).trans rfl
theorem tsubcc (rd : RegNum) (rs1 : RegNum) (src : Operand2) : Statement (.tsubcc rd rs1 src) := (fixed_format3 _ _ _ _ _).trans rfl
theorem taddcctv (rd : RegNum) (rs1 : RegNum) (src : Operand2) : Statement (.taddcctv rd rs1 src) := (fixed_format3 _ _ _ _ _).trans rfl
theorem tsubcctv (rd : RegNum) (rs1 : RegNum) (src : Operand2) : Statement (.tsubcctv rd rs1 src) := (fixed_format3 _ _ _ _ _).trans rfl
theorem mulscc (rd : RegNum) (rs1 : RegNum) (src : Operand2) : Statement (.mulscc rd rs1 src) := (fixed_format3 _ _ _ _ _).trans rfl
theorem sll (rd : RegNum) (rs1 : RegNum) (cnt : ShiftSource) : Statement (.sll rd rs1 cnt) := (fixed_format3 _ _ _ _ _).trans rfl
theorem srl (rd : RegNum) (rs1 : RegNum) (cnt : ShiftSource) : Statement (.srl rd rs1 cnt) := (fixed_format3 _ _ _ _ _).trans rfl
theorem sra (rd : RegNum) (rs1 : RegNum) (cnt : ShiftSource) : Statement (.sra rd rs1 cnt) := (fixed_format3 _ _ _ _ _).trans rfl
theorem sethi (rd : RegNum) (imm22 : BitVec 22) : Statement (.sethi rd imm22) := (fixed_format2 _ _ _).trans rfl
theorem bn (a : Bool) (disp22 : BitVec 22) : Statement (.bn a disp22) := (fixed_branch _ _ _ _).trans rfl
theorem be (a : Bool) (disp22 : BitVec 22) : Statement (.be a disp22) := (fixed_branch _ _ _ _).trans rfl
theorem ble (a : Bool) (disp22 : BitVec 22) : Statement (.ble a disp22) := (fixed_branch _ _ _ _).trans rfl
theorem bl (a : Bool) (disp22 : BitVec 22) : Statement (.bl a disp22) := (fixed_branch _ _ _ _).trans rfl
theorem bleu (a : Bool) (disp22 : BitVec 22) : Statement (.bleu a disp22) := (fixed_branch _ _ _ _).trans rfl
theorem bcs (a : Bool) (disp22 : BitVec 22) : Statement (.bcs a disp22) := (fixed_branch _ _ _ _).trans rfl
theorem bneg (a : Bool) (disp22 : BitVec 22) : Statement (.bneg a disp22) := (fixed_branch _ _ _ _).trans rfl
theorem bvs (a : Bool) (disp22 : BitVec 22) : Statement (.bvs a disp22) := (fixed_branch _ _ _ _).trans rfl
theorem ba (a : Bool) (disp22 : BitVec 22) : Statement (.ba a disp22) := (fixed_branch _ _ _ _).trans rfl
theorem bne (a : Bool) (disp22 : BitVec 22) : Statement (.bne a disp22) := (fixed_branch _ _ _ _).trans rfl
theorem bg (a : Bool) (disp22 : BitVec 22) : Statement (.bg a disp22) := (fixed_branch _ _ _ _).trans rfl
theorem bge (a : Bool) (disp22 : BitVec 22) : Statement (.bge a disp22) := (fixed_branch _ _ _ _).trans rfl
theorem bgu (a : Bool) (disp22 : BitVec 22) : Statement (.bgu a disp22) := (fixed_branch _ _ _ _).trans rfl
theorem bcc (a : Bool) (disp22 : BitVec 22) : Statement (.bcc a disp22) := (fixed_branch _ _ _ _).trans rfl
theorem bpos (a : Bool) (disp22 : BitVec 22) : Statement (.bpos a disp22) := (fixed_branch _ _ _ _).trans rfl
theorem bvc (a : Bool) (disp22 : BitVec 22) : Statement (.bvc a disp22) := (fixed_branch _ _ _ _).trans rfl
theorem fbn (a : Bool) (disp22 : BitVec 22) : Statement (.fbn a disp22) := (fixed_branch _ _ _ _).trans rfl
theorem fbne (a : Bool) (disp22 : BitVec 22) : Statement (.fbne a disp22) := (fixed_branch _ _ _ _).trans rfl
theorem fblg (a : Bool) (disp22 : BitVec 22) : Statement (.fblg a disp22) := (fixed_branch _ _ _ _).trans rfl
theorem fbul (a : Bool) (disp22 : BitVec 22) : Statement (.fbul a disp22) := (fixed_branch _ _ _ _).trans rfl
theorem fbl (a : Bool) (disp22 : BitVec 22) : Statement (.fbl a disp22) := (fixed_branch _ _ _ _).trans rfl
theorem fbug (a : Bool) (disp22 : BitVec 22) : Statement (.fbug a disp22) := (fixed_branch _ _ _ _).trans rfl
theorem fbg (a : Bool) (disp22 : BitVec 22) : Statement (.fbg a disp22) := (fixed_branch _ _ _ _).trans rfl
theorem fbu (a : Bool) (disp22 : BitVec 22) : Statement (.fbu a disp22) := (fixed_branch _ _ _ _).trans rfl
theorem fba (a : Bool) (disp22 : BitVec 22) : Statement (.fba a disp22) := (fixed_branch _ _ _ _).trans rfl
theorem fbe (a : Bool) (disp22 : BitVec 22) : Statement (.fbe a disp22) := (fixed_branch _ _ _ _).trans rfl
theorem fbue (a : Bool) (disp22 : BitVec 22) : Statement (.fbue a disp22) := (fixed_branch _ _ _ _).trans rfl
theorem fbge (a : Bool) (disp22 : BitVec 22) : Statement (.fbge a disp22) := (fixed_branch _ _ _ _).trans rfl
theorem fbuge (a : Bool) (disp22 : BitVec 22) : Statement (.fbuge a disp22) := (fixed_branch _ _ _ _).trans rfl
theorem fble (a : Bool) (disp22 : BitVec 22) : Statement (.fble a disp22) := (fixed_branch _ _ _ _).trans rfl
theorem fbule (a : Bool) (disp22 : BitVec 22) : Statement (.fbule a disp22) := (fixed_branch _ _ _ _).trans rfl
theorem fbo (a : Bool) (disp22 : BitVec 22) : Statement (.fbo a disp22) := (fixed_branch _ _ _ _).trans rfl
theorem cbn (a : Bool) (disp22 : BitVec 22) : Statement (.cbn a disp22) := (fixed_branch _ _ _ _).trans rfl
theorem cb123 (a : Bool) (disp22 : BitVec 22) : Statement (.cb123 a disp22) := (fixed_branch _ _ _ _).trans rfl
theorem cb12 (a : Bool) (disp22 : BitVec 22) : Statement (.cb12 a disp22) := (fixed_branch _ _ _ _).trans rfl
theorem cb13 (a : Bool) (disp22 : BitVec 22) : Statement (.cb13 a disp22) := (fixed_branch _ _ _ _).trans rfl
theorem cb1 (a : Bool) (disp22 : BitVec 22) : Statement (.cb1 a disp22) := (fixed_branch _ _ _ _).trans rfl
theorem cb23 (a : Bool) (disp22 : BitVec 22) : Statement (.cb23 a disp22) := (fixed_branch _ _ _ _).trans rfl
theorem cb2 (a : Bool) (disp22 : BitVec 22) : Statement (.cb2 a disp22) := (fixed_branch _ _ _ _).trans rfl
theorem cb3 (a : Bool) (disp22 : BitVec 22) : Statement (.cb3 a disp22) := (fixed_branch _ _ _ _).trans rfl
theorem cba (a : Bool) (disp22 : BitVec 22) : Statement (.cba a disp22) := (fixed_branch _ _ _ _).trans rfl
theorem cb0 (a : Bool) (disp22 : BitVec 22) : Statement (.cb0 a disp22) := (fixed_branch _ _ _ _).trans rfl
theorem cb03 (a : Bool) (disp22 : BitVec 22) : Statement (.cb03 a disp22) := (fixed_branch _ _ _ _).trans rfl
theorem cb02 (a : Bool) (disp22 : BitVec 22) : Statement (.cb02 a disp22) := (fixed_branch _ _ _ _).trans rfl
theorem cb023 (a : Bool) (disp22 : BitVec 22) : Statement (.cb023 a disp22) := (fixed_branch _ _ _ _).trans rfl
theorem cb01 (a : Bool) (disp22 : BitVec 22) : Statement (.cb01 a disp22) := (fixed_branch _ _ _ _).trans rfl
theorem cb013 (a : Bool) (disp22 : BitVec 22) : Statement (.cb013 a disp22) := (fixed_branch _ _ _ _).trans rfl
theorem cb012 (a : Bool) (disp22 : BitVec 22) : Statement (.cb012 a disp22) := (fixed_branch _ _ _ _).trans rfl
theorem call (disp30 : BitVec 30) : Statement (.call disp30) := (fixed_format1 _).trans rfl
theorem jmpl (rd : RegNum) (rs1 : RegNum) (src : Operand2) : Statement (.jmpl rd rs1 src) := (fixed_format3 _ _ _ _ _).trans rfl
theorem rett (rs1 : RegNum) (src : Operand2) : Statement (.rett rs1 src) := (fixed_format3 _ _ _ _ _).trans rfl
theorem tn (rs1 : RegNum) (src : Operand2) : Statement (.tn rs1 src) := (fixed_ticc _ _ _ _ _).trans rfl
theorem te (rs1 : RegNum) (src : Operand2) : Statement (.te rs1 src) := (fixed_ticc _ _ _ _ _).trans rfl
theorem tle (rs1 : RegNum) (src : Operand2) : Statement (.tle rs1 src) := (fixed_ticc _ _ _ _ _).trans rfl
theorem tl (rs1 : RegNum) (src : Operand2) : Statement (.tl rs1 src) := (fixed_ticc _ _ _ _ _).trans rfl
theorem tleu (rs1 : RegNum) (src : Operand2) : Statement (.tleu rs1 src) := (fixed_ticc _ _ _ _ _).trans rfl
theorem tcs (rs1 : RegNum) (src : Operand2) : Statement (.tcs rs1 src) := (fixed_ticc _ _ _ _ _).trans rfl
theorem tneg (rs1 : RegNum) (src : Operand2) : Statement (.tneg rs1 src) := (fixed_ticc _ _ _ _ _).trans rfl
theorem tvs (rs1 : RegNum) (src : Operand2) : Statement (.tvs rs1 src) := (fixed_ticc _ _ _ _ _).trans rfl
theorem ta (rs1 : RegNum) (src : Operand2) : Statement (.ta rs1 src) := (fixed_ticc _ _ _ _ _).trans rfl
theorem tne (rs1 : RegNum) (src : Operand2) : Statement (.tne rs1 src) := (fixed_ticc _ _ _ _ _).trans rfl
theorem tg (rs1 : RegNum) (src : Operand2) : Statement (.tg rs1 src) := (fixed_ticc _ _ _ _ _).trans rfl
theorem tge (rs1 : RegNum) (src : Operand2) : Statement (.tge rs1 src) := (fixed_ticc _ _ _ _ _).trans rfl
theorem tgu (rs1 : RegNum) (src : Operand2) : Statement (.tgu rs1 src) := (fixed_ticc _ _ _ _ _).trans rfl
theorem tcc (rs1 : RegNum) (src : Operand2) : Statement (.tcc rs1 src) := (fixed_ticc _ _ _ _ _).trans rfl
theorem tpos (rs1 : RegNum) (src : Operand2) : Statement (.tpos rs1 src) := (fixed_ticc _ _ _ _ _).trans rfl
theorem tvc (rs1 : RegNum) (src : Operand2) : Statement (.tvc rs1 src) := (fixed_ticc _ _ _ _ _).trans rfl
theorem save (rd : RegNum) (rs1 : RegNum) (src : Operand2) : Statement (.save rd rs1 src) := (fixed_format3 _ _ _ _ _).trans rfl
theorem restore (rd : RegNum) (rs1 : RegNum) (src : Operand2) : Statement (.restore rd rs1 src) := (fixed_format3 _ _ _ _ _).trans rfl
theorem rdy (rd : RegNum) : Statement (.rdy rd) := (fixed_format3 _ _ _ _ _).trans rfl
theorem rdpsr (rd : RegNum) : Statement (.rdpsr rd) := (fixed_format3 _ _ _ _ _).trans rfl
theorem rdwim (rd : RegNum) : Statement (.rdwim rd) := (fixed_format3 _ _ _ _ _).trans rfl
theorem rdtbr (rd : RegNum) : Statement (.rdtbr rd) := (fixed_format3 _ _ _ _ _).trans rfl
theorem wry (rs1 : RegNum) (src : Operand2) : Statement (.wry rs1 src) := (fixed_format3 _ _ _ _ _).trans rfl
theorem wrpsr (rs1 : RegNum) (src : Operand2) : Statement (.wrpsr rs1 src) := (fixed_format3 _ _ _ _ _).trans rfl
theorem wrwim (rs1 : RegNum) (src : Operand2) : Statement (.wrwim rs1 src) := (fixed_format3 _ _ _ _ _).trans rfl
theorem wrtbr (rs1 : RegNum) (src : Operand2) : Statement (.wrtbr rs1 src) := (fixed_format3 _ _ _ _ _).trans rfl
theorem fmovs (rd : RegNum) (rs2 : RegNum) : Statement (.fmovs rd rs2) := (fixed_opf _ _ _ _ _ _).trans rfl
theorem fnegs (rd : RegNum) (rs2 : RegNum) : Statement (.fnegs rd rs2) := (fixed_opf _ _ _ _ _ _).trans rfl
theorem fabss (rd : RegNum) (rs2 : RegNum) : Statement (.fabss rd rs2) := (fixed_opf _ _ _ _ _ _).trans rfl
theorem fsqrts (rd : RegNum) (rs2 : RegNum) : Statement (.fsqrts rd rs2) := (fixed_opf _ _ _ _ _ _).trans rfl
theorem fsqrtd (rd : RegNum) (rs2 : RegNum) : Statement (.fsqrtd rd rs2) := (fixed_opf _ _ _ _ _ _).trans rfl
theorem fsqrtx (rd : RegNum) (rs2 : RegNum) : Statement (.fsqrtx rd rs2) := (fixed_opf _ _ _ _ _ _).trans rfl
theorem fadds (rd : RegNum) (rs1 : RegNum) (rs2 : RegNum) : Statement (.fadds rd rs1 rs2) := (fixed_opf _ _ _ _ _ _).trans rfl
theorem faddd (rd : RegNum) (rs1 : RegNum) (rs2 : RegNum) : Statement (.faddd rd rs1 rs2) := (fixed_opf _ _ _ _ _ _).trans rfl
theorem faddx (rd : RegNum) (rs1 : RegNum) (rs2 : RegNum) : Statement (.faddx rd rs1 rs2) := (fixed_opf _ _ _ _ _ _).trans rfl
theorem fsubs (rd : RegNum) (rs1 : RegNum) (rs2 : RegNum) : Statement (.fsubs rd rs1 rs2) := (fixed_opf _ _ _ _ _ _).trans rfl
theorem fsubd (rd : RegNum) (rs1 : RegNum) (rs2 : RegNum) : Statement (.fsubd rd rs1 rs2) := (fixed_opf _ _ _ _ _ _).trans rfl
theorem fsubx (rd : RegNum) (rs1 : RegNum) (rs2 : RegNum) : Statement (.fsubx rd rs1 rs2) := (fixed_opf _ _ _ _ _ _).trans rfl
theorem fmuls (rd : RegNum) (rs1 : RegNum) (rs2 : RegNum) : Statement (.fmuls rd rs1 rs2) := (fixed_opf _ _ _ _ _ _).trans rfl
theorem fmuld (rd : RegNum) (rs1 : RegNum) (rs2 : RegNum) : Statement (.fmuld rd rs1 rs2) := (fixed_opf _ _ _ _ _ _).trans rfl
theorem fmulx (rd : RegNum) (rs1 : RegNum) (rs2 : RegNum) : Statement (.fmulx rd rs1 rs2) := (fixed_opf _ _ _ _ _ _).trans rfl
theorem fdivs (rd : RegNum) (rs1 : RegNum) (rs2 : RegNum) : Statement (.fdivs rd rs1 rs2) := (fixed_opf _ _ _ _ _ _).trans rfl
theorem fdivd (rd : RegNum) (rs1 : RegNum) (rs2 : RegNum) : Statement (.fdivd rd rs1 rs2) := (fixed_opf _ _ _ _ _ _).trans rfl
theorem fdivx (rd : RegNum) (rs1 : RegNum) (rs2 : RegNum) : Statement (.fdivx rd rs1 rs2) := (fixed_opf _ _ _ _ _ _).trans rfl
theorem fitos (rd : RegNum) (rs2 : RegNum) : Statement (.fitos rd rs2) := (fixed_opf _ _ _ _ _ _).trans rfl
theorem fdtos (rd : RegNum) (rs2 : RegNum) : Statement (.fdtos rd rs2) := (fixed_opf _ _ _ _ _ _).trans rfl
theorem fxtos (rd : RegNum) (rs2 : RegNum) : Statement (.fxtos rd rs2) := (fixed_opf _ _ _ _ _ _).trans rfl
theorem fitod (rd : RegNum) (rs2 : RegNum) : Statement (.fitod rd rs2) := (fixed_opf _ _ _ _ _ _).trans rfl
theorem fstod (rd : RegNum) (rs2 : RegNum) : Statement (.fstod rd rs2) := (fixed_opf _ _ _ _ _ _).trans rfl
theorem fxtod (rd : RegNum) (rs2 : RegNum) : Statement (.fxtod rd rs2) := (fixed_opf _ _ _ _ _ _).trans rfl
theorem fitox (rd : RegNum) (rs2 : RegNum) : Statement (.fitox rd rs2) := (fixed_opf _ _ _ _ _ _).trans rfl
theorem fstox (rd : RegNum) (rs2 : RegNum) : Statement (.fstox rd rs2) := (fixed_opf _ _ _ _ _ _).trans rfl
theorem fdtox (rd : RegNum) (rs2 : RegNum) : Statement (.fdtox rd rs2) := (fixed_opf _ _ _ _ _ _).trans rfl
theorem fstoi (rd : RegNum) (rs2 : RegNum) : Statement (.fstoi rd rs2) := (fixed_opf _ _ _ _ _ _).trans rfl
theorem fdtoi (rd : RegNum) (rs2 : RegNum) : Statement (.fdtoi rd rs2) := (fixed_opf _ _ _ _ _ _).trans rfl
theorem fxtoi (rd : RegNum) (rs2 : RegNum) : Statement (.fxtoi rd rs2) := (fixed_opf _ _ _ _ _ _).trans rfl
theorem fcmps (rs1 : RegNum) (rs2 : RegNum) : Statement (.fcmps rs1 rs2) := (fixed_opf _ _ _ _ _ _).trans rfl
theorem fcmpd (rs1 : RegNum) (rs2 : RegNum) : Statement (.fcmpd rs1 rs2) := (fixed_opf _ _ _ _ _ _).trans rfl
theorem fcmpx (rs1 : RegNum) (rs2 : RegNum) : Statement (.fcmpx rs1 rs2) := (fixed_opf _ _ _ _ _ _).trans rfl
theorem fcmpes (rs1 : RegNum) (rs2 : RegNum) : Statement (.fcmpes rs1 rs2) := (fixed_opf _ _ _ _ _ _).trans rfl
theorem fcmped (rs1 : RegNum) (rs2 : RegNum) : Statement (.fcmped rs1 rs2) := (fixed_opf _ _ _ _ _ _).trans rfl
theorem fcmpex (rs1 : RegNum) (rs2 : RegNum) : Statement (.fcmpex rs1 rs2) := (fixed_opf _ _ _ _ _ _).trans rfl
theorem fpop1Reserved (rd : RegNum) (rs1 : RegNum) (opf : BitVec 9) (rs2 : RegNum) : Statement (.fpop1Reserved rd rs1 opf rs2) := (fixed_format3 _ _ _ _ _).trans rfl
theorem fpop2Reserved (rd : RegNum) (rs1 : RegNum) (opf : BitVec 9) (rs2 : RegNum) : Statement (.fpop2Reserved rd rs1 opf rs2) := (fixed_format3 _ _ _ _ _).trans rfl
theorem cpop1 (rd : RegNum) (rs1 : RegNum) (opc : BitVec 9) (rs2 : RegNum) : Statement (.cpop1 rd rs1 opc rs2) := (fixed_format3 _ _ _ _ _).trans rfl
theorem cpop2 (rd : RegNum) (rs1 : RegNum) (opc : BitVec 9) (rs2 : RegNum) : Statement (.cpop2 rd rs1 opc rs2) := (fixed_format3 _ _ _ _ _).trans rfl
theorem unimp (const22 : BitVec 22) : Statement (.unimp const22) := (fixed_format2 _ _ _).trans rfl
theorem iflush (rs1 : RegNum) (src : Operand2) : Statement (.iflush rs1 src) := (fixed_format3 _ _ _ _ _).trans rfl
theorem reservedOp00_001 : Statement (.reservedOp00_001) := rfl
theorem reservedOp00_011 : Statement (.reservedOp00_011) := rfl
theorem reservedOp00_101 : Statement (.reservedOp00_101) := rfl
theorem reservedOp10_001001 : Statement (.reservedOp10_001001) := rfl
theorem reservedOp10_001010 : Statement (.reservedOp10_001010) := rfl
theorem reservedOp10_001011 : Statement (.reservedOp10_001011) := rfl
theorem reservedOp10_001101 : Statement (.reservedOp10_001101) := rfl
theorem reservedOp10_001110 : Statement (.reservedOp10_001110) := rfl
theorem reservedOp10_001111 : Statement (.reservedOp10_001111) := rfl
theorem reservedOp10_011001 : Statement (.reservedOp10_011001) := rfl
theorem reservedOp10_011010 : Statement (.reservedOp10_011010) := rfl
theorem reservedOp10_011011 : Statement (.reservedOp10_011011) := rfl
theorem reservedOp10_011101 : Statement (.reservedOp10_011101) := rfl
theorem reservedOp10_011110 : Statement (.reservedOp10_011110) := rfl
theorem reservedOp10_011111 : Statement (.reservedOp10_011111) := rfl
theorem reservedOp10_101100 : Statement (.reservedOp10_101100) := rfl
theorem reservedOp10_101101 : Statement (.reservedOp10_101101) := rfl
theorem reservedOp10_101110 : Statement (.reservedOp10_101110) := rfl
theorem reservedOp10_101111 : Statement (.reservedOp10_101111) := rfl
theorem reservedOp10_111110 : Statement (.reservedOp10_111110) := rfl
theorem reservedOp10_111111 : Statement (.reservedOp10_111111) := rfl
theorem reservedOp11_001000 : Statement (.reservedOp11_001000) := rfl
theorem reservedOp11_001011 : Statement (.reservedOp11_001011) := rfl
theorem reservedOp11_001100 : Statement (.reservedOp11_001100) := rfl
theorem reservedOp11_001110 : Statement (.reservedOp11_001110) := rfl
theorem reservedOp11_011000 : Statement (.reservedOp11_011000) := rfl
theorem reservedOp11_011011 : Statement (.reservedOp11_011011) := rfl
theorem reservedOp11_011100 : Statement (.reservedOp11_011100) := rfl
theorem reservedOp11_011110 : Statement (.reservedOp11_011110) := rfl
theorem reservedOp11_100010 : Statement (.reservedOp11_100010) := rfl
theorem reservedOp11_101000 : Statement (.reservedOp11_101000) := rfl
theorem reservedOp11_101001 : Statement (.reservedOp11_101001) := rfl
theorem reservedOp11_101010 : Statement (.reservedOp11_101010) := rfl
theorem reservedOp11_101011 : Statement (.reservedOp11_101011) := rfl
theorem reservedOp11_101100 : Statement (.reservedOp11_101100) := rfl
theorem reservedOp11_101101 : Statement (.reservedOp11_101101) := rfl
theorem reservedOp11_101110 : Statement (.reservedOp11_101110) := rfl
theorem reservedOp11_101111 : Statement (.reservedOp11_101111) := rfl
theorem reservedOp11_110010 : Statement (.reservedOp11_110010) := rfl
theorem reservedOp11_111000 : Statement (.reservedOp11_111000) := rfl
theorem reservedOp11_111001 : Statement (.reservedOp11_111001) := rfl
theorem reservedOp11_111010 : Statement (.reservedOp11_111010) := rfl
theorem reservedOp11_111011 : Statement (.reservedOp11_111011) := rfl
theorem reservedOp11_111100 : Statement (.reservedOp11_111100) := rfl
theorem reservedOp11_111101 : Statement (.reservedOp11_111101) := rfl
theorem reservedOp11_111110 : Statement (.reservedOp11_111110) := rfl
theorem reservedOp11_111111 : Statement (.reservedOp11_111111) := rfl

end EncodeRow

end Sys2Proof.Laws
end

