-- ==== Sys2Proof/Laws/Registers.lean ====
section
/-! SUPPORT. Reading and writing r registers: r[0], distinct registers, the overlap of windows. -/

namespace Sys2Proof.Machine

@[simp] theorem phys_zero (w : Window) : phys w 0#5 = .zero := rfl

theorem phys_eq_zero_iff (w : Window) (n : RegNum) : phys w n = .zero ↔ n = 0#5 := by
  unfold phys
  split
  · simp [*]
  · split <;> simp [*]

/-- Different numbers name different registers of one window. -/
theorem phys_injective (w : Window) (n m : RegNum) : phys w n = phys w m → n = m := by
  revert w n m
  decide +kernel

/-- The ins of a window are the outs of the window above it (spec 10_state.md R43). -/
theorem phys_overlap (w : Window) (n : RegNum) (h8 : 8 ≤ n.toNat) (h15 : n.toNat ≤ 15) :
    phys w (n + 16#5) = phys (w + 1#3) n := by
  revert w n
  decide +kernel

theorem pairEven_ne_pairOdd (rd : RegNum) : pairEven rd ≠ pairOdd rd := by revert rd; decide

theorem pairOdd_ne_zero (rd : RegNum) : pairOdd rd ≠ 0#5 := by revert rd; decide

@[simp] theorem State.readPhys_zero (s : State) : s.readPhys .zero = 0#32 := rfl

/-- Everything a write of a physical register does to a read of one. -/
theorem State.readPhys_writePhys (s : State) (p q : PhysReg) (v : Word) :
    (s.writePhys p v).readPhys q = if q = p ∧ q ≠ .zero then v else s.readPhys q := by
  cases p <;> cases q <;> simp [State.readPhys, State.writePhys, Vector.getElem_set, Fin.ext_iff, eq_comm] <;>
    split <;> rfl

/-- What a write of a physical register does to its ghost bit and to the others' (60_exceptions.md R585). -/
theorem State.physWritten_writePhys (s : State) (p q : PhysReg) (v : Word) :
    (s.writePhys p v).physWritten q = (decide (q = p) || s.physWritten q) := by
  cases p <;> cases q <;> simp [State.physWritten, State.writePhys, Vector.getElem_set, Fin.ext_iff, eq_comm] <;>
    split <;> simp_all

@[simp] theorem State.regIn_zero (s : State) (w : Window) : s.regIn w 0#5 = 0#32 := rfl

@[simp] theorem State.reg_zero (s : State) : s.reg 0#5 = 0#32 := rfl

theorem State.setRegIn_zero (s : State) (w : Window) (v : Word) : s.setRegIn w 0#5 v = s := rfl

theorem State.setReg_zero (s : State) (v : Word) : s.setReg 0#5 v = s := rfl

/-- Everything a write of a register does to a read of one, in any two windows. -/
theorem State.regIn_setRegIn (s : State) (w w' : Window) (n m : RegNum) (v : Word) :
    (s.setRegIn w n v).regIn w' m = if phys w' m = phys w n ∧ m ≠ 0#5 then v else s.regIn w' m := by
  simp only [State.regIn, State.setRegIn, State.readPhys_writePhys, ne_eq, phys_eq_zero_iff]

/-- Everything a write of a register of the current window does to a read of one. -/
theorem State.reg_setReg (s : State) (n m : RegNum) (v : Word) :
    (s.setReg n v).reg m = if m = n ∧ m ≠ 0#5 then v else s.reg m := by
  simp only [State.reg, State.setReg, State.setRegIn_psr, State.regIn_setRegIn]
  by_cases h : m = n
  · simp [h]
  · simp [h, mt (phys_injective _ m n) h]

/-- Two states with the same registers read the same. -/
theorem State.regIn_congr {s t : State} (hg : t.globals = s.globals) (hw : t.windows = s.windows) (w : Window)
    (n : RegNum) : t.regIn w n = s.regIn w n := by
  simp only [State.regIn, State.readPhys, hg, hw]

/-- A register write is the frame `WritesReg` says. -/
theorem writesReg_setRegIn (s : State) (w : Window) (rd : RegNum) (v : Word) :
    WritesReg s (s.setRegIn w rd v) w rd v := by
  refine ⟨⟨fun h => by simp [State.regIn_setRegIn, h], fun w' n h => ?_⟩, fun p => by
    simp [State.setRegIn, State.physWritten_writePhys]⟩
  rw [State.regIn_setRegIn, if_neg]
  rintro ⟨h1, h2⟩
  rcases h with h | h
  · exact h h1
  · exact h2 h

/-- Two register writes to the pair of `rd` are the frame `WritesPair` says. -/
theorem writesPair_setRegIn (s : State) (w : Window) (rd : RegNum) (v0 v1 : Word) :
    WritesPair s ((s.setRegIn w (pairEven rd) v0).setRegIn w (pairOdd rd) v1) w rd v0 v1 := by
  have hne : phys w (pairEven rd) ≠ phys w (pairOdd rd) := fun h => pairEven_ne_pairOdd rd (phys_injective _ _ _ h)
  refine ⟨fun h => by simp [State.regIn_setRegIn, h, hne], by simp [State.regIn_setRegIn, pairOdd_ne_zero], ?_, fun p => by
    simp [State.setRegIn, State.physWritten_writePhys, Bool.or_left_comm, Bool.or_assoc]⟩
  rintro w' n (⟨h1, h2⟩ | rfl)
  · simp [State.regIn_setRegIn, h1, h2]
  · rfl

end Sys2Proof.Machine
end

