-- ==== Sys2Proof/Laws/Step.lean ====
section
/-! SUPPORT. What the shared operations and a step can do, said once: the outcomes of `attempt`, of a trap, of `exec` and
of `step`. -/

namespace Sys2Proof.Machine

/-- An instruction with trap conditions either raises the first that holds or ends as if there were none. -/
theorem State.attempt_cases {s t done : State} {conds : List (Bool × Trap)} (h : s.attempt conds done = t) :
    (∃ trap, firstTrap conds = some trap ∧ t = s.raise trap) ∨ (firstTrap conds = none ∧ t = done) := by
  unfold State.attempt at h
  split at h
  · rename_i trap heq
    exact .inl ⟨trap, heq, h.symm⟩
  · rename_i heq
    exact .inr ⟨heq, h.symm⟩

theorem firstTrap_cons (c : Bool) (t : Trap) (rest : List (Bool × Trap)) :
    firstTrap ((c, t) :: rest) = if c then some t else firstTrap rest := rfl

theorem firstTrap_nil : firstTrap [] = none := rfl

/-- No trap is found exactly when no condition holds. -/
theorem firstTrap_eq_none_iff (conds : List (Bool × Trap)) :
    firstTrap conds = none ↔ ∀ c ∈ conds, c.1 = false := by
  induction conds with
  | nil => simp [firstTrap]
  | cons c conds ih =>
    obtain ⟨b, t⟩ := c
    cases b <;> simp [firstTrap_cons, ih]

/-- The trap found is one whose condition holds. -/
theorem mem_of_firstTrap {conds : List (Bool × Trap)} {trap : Trap} (h : firstTrap conds = some trap) :
    (true, trap) ∈ conds := by
  induction conds with
  | nil => simp [firstTrap] at h
  | cons c conds ih =>
    obtain ⟨b, t⟩ := c
    cases b
    · exact List.mem_cons_of_mem _ (ih (by simpa [firstTrap_cons] using h))
    · simp only [firstTrap_cons, if_true, Option.some.injEq] at h
      simp [h]

/-- With traps enabled a trap leaves the mode as it is (spec 60_exceptions.md R520). -/
theorem State.raise_mode_of_et (s : State) (t : Trap) (h : s.psr.et = true) : (s.raise t).mode = s.mode := by
  simp [State.modeAfterTrap, h]

/-- With traps disabled a trap ends in error mode (R530). -/
theorem State.raise_mode_of_not_et (s : State) (t : Trap) (h : s.psr.et = false) : (s.raise t).mode = .error := by
  simp [State.modeAfterTrap, h]

/-! ## Whether an instruction took a trap -/

/-- A trap is seen as one; for WRPSR what tells is that a condition of its own holds. -/
theorem tookTrap_raise (i : Instr) (s : State) (t : Trap)
    (h : ∀ rs1 src, i = .wrpsr rs1 src → (firstTrap (s.wrpsrTraps (s.writeValue rs1 src))).isSome = true) :
    tookTrap i s (s.raise t) = true := by
  unfold tookTrap
  split
  · exact h _ _ rfl
  · split <;> simp_all [State.modeAfterTrap]

/-- An instruction that ends in execute mode and does not disable traps took none. -/
theorem tookTrap_eq_false {i : Instr} {s t : State} (he : exec i s = .next t) (hm : t.mode = .execute)
    (ht : s.psr.et = true → t.psr.et = true) : tookTrap i s t = false := by
  unfold tookTrap
  split
  · rename_i rs1 src
    cases hf : firstTrap (s.wrpsrTraps (s.writeValue rs1 src)) with
    | none => rfl
    | some trap =>
      simp only [exec, execWrpsr, State.attempt, hf, Host.Outcome.next.injEq] at he
      subst he
      by_cases e : s.psr.et = true
      · simpa using ht e
      · simp [State.modeAfterTrap, e] at hm
  · split <;> simp_all

/-- Everything a write of a control register can do: it is seen at once, or is the last of the late ones. -/
theorem State.writeControl_cases (s : State) (w : ControlWrite) :
    (s.params.wrDelay = 0 ∧ s.writeControl w = s.setControls (s.controls.write w)) ∨
      (s.params.wrDelay ≠ 0 ∧
        s.writeControl w = { s with late := s.late ++ [{ left := s.params.wrDelay.val, write := w }] }) := by
  by_cases h : s.params.wrDelay = 0
  · exact .inl ⟨h, s.writeControl_now w h⟩
  · exact .inr ⟨h, s.writeControl_late_of_ne w h⟩

/-- The boundary takes the oldest late write first: it is seen if its time has come, otherwise all of them wait. -/
theorem State.tickLate_cons (s : State) (l : LateWrite) (rest : List LateWrite) (h : s.late = l :: rest) :
    s.tickLate =
      if l.left = 0 then { s.setControls (s.controls.write l.write) with late := rest }.tickLate
      else { s with late := s.late.map fun l => { l with left := l.left - 1 } } := by
  cases s
  cases h
  by_cases hl : l.left = 0 <;> simp [State.tickLate, hl, State.setControls, State.controls]

/-- A trap sees the oldest late write first, then the others. -/
theorem State.settleLate_cons (s : State) (l : LateWrite) (rest : List LateWrite) (h : s.late = l :: rest) :
    s.settleLate = { s.setControls (s.controls.write l.write) with late := rest }.settleLate := by
  cases s
  cases h
  simp [State.settleLate, State.setControls, State.controls]

/-- Every instruction of every form has a next state. -/
theorem exec_next (i : Instr) (s : State) : ∃ t, exec i s = .next t := by
  cases i <;> exact ⟨_, rfl⟩

/-- A boundary that runs a word runs the word fetched at PC, with nothing else to do: execute mode, RESET and HALT not
asserted, no hardware error and no interrupt to take, no annulled slot, the fetch not refused. -/
theorem State.boundary_run {s u : State} {w : Word} (h : s.boundary = .run w u) :
    let a := (s.accept s.input).tickLate
    w = a.fetchedWord ∧ u = a.latch w ∧ a.mode = .execute ∧ s.input.reset = false ∧ s.input.halt = false ∧
      s.input.upsets.contains .resetLine = false ∧
      firstTrap (a.hardwareTraps s.input a.current) = none ∧
      (a.interruptPending && !a.preciseError s.input a.current) = false ∧ a.annul = false ∧ a.fetchRefused = false := by
  simp only [State.boundary, State.acceptedBoundary] at h
  simp only [State.executeBoundary] at h
  intro a
  repeat' split at h
  all_goals cases h
  simp_all [a]

/-! ## The boundary, case by case -/

/-- Writes of other bus masters change memory and what the prefetch path may still hold of it, nothing else. -/
theorem State.busWrites_frame (ws : List BusWrite) (s : State) :
    ws.foldl State.busWrite s =
      { s with mem := (ws.foldl State.busWrite s).mem, recent := (ws.foldl State.busWrite s).recent } := by
  induction ws generalizing s with
  | nil => rfl
  | cons w ws ih =>
    rw [List.foldl_cons, ih]
    rfl

/-- What accepting an input leaves as it was. -/
theorem State.accept_frame (s : State) (inp : BoardInput) :
    s.accept inp =
      { s with
        mem := (inp.busWrites.foldl State.busWrite s).mem
        recent := (inp.busWrites.foldl State.busWrite s).recent
        board := s.board.tail
        irl := inp.irl
        intack := false
        hwerror := if s.mode = .execute && !inp.halt then false else s.hwerror
        fpu := s.fpu.signal inp.fexc
        cp := (s.cp.signal inp.cexc).drive inp.ccc
        mexc := inp.mexc.getD s.mexc
        pins := inp.pins.getD s.pins } := by
  unfold State.accept
  rw [State.busWrites_frame]

/-- With no input of the board left, accepting it ends the outputs of the step before and changes nothing else. -/
theorem State.accept_idle (s : State) (hm : s.mode = .execute) (hb : s.board = []) :
    s.accept s.input = { s with intack := false, hwerror := false } := by
  have hin : s.input = s.idleInput := by simp [State.input, hb]
  rw [hin]
  simp [State.accept, State.idleInput, hm, hb, CoUnit.signal, CoUnit.drive]

/-- The same, with the late writes that are due seen. -/
theorem State.accept_tick_idle (s : State) (hm : s.mode = .execute) (hb : s.board = []) :
    (s.accept s.input).tickLate = { s.tickLate with intack := false, hwerror := false } := by
  rw [s.accept_idle hm hb]
  rfl

theorem State.breaksPins_idle (s : State) (hb : s.board = []) : s.breaksPins s.input = false := by
  simp [State.breaksPins, State.input, hb, State.idleInput]

/-- In execute mode, with RESET and HALT not asserted and no error of the RESET signal, the boundary is that of execute mode. -/
theorem State.boundary_execute (s : State) (hm : s.mode = .execute) (hr : s.input.reset = false)
    (hh : s.input.halt = false) (hp : s.breaksPins s.input = false)
    (hu : s.input.upsets.contains .resetLine = false) :
    s.boundary = (s.accept s.input).tickLate.executeBoundary s.input := by
  simp only [State.boundary, State.acceptedBoundary, State.accept_frame, hm, hr, hh, hp, hu]
  simp

/-- With no input of the board left, no hardware error is found. -/
theorem State.upsets_idle (s : State) (hb : s.board = []) : s.input.upsets = [] := by
  simp [State.input, hb, State.idleInput]

/-- Without a detected parity error nothing has wrong parity. -/
theorem wrongParity_quiet {inp : BoardInput} (h : inp.upsets = []) (site : UpsetSite) (written : Bool) :
    wrongParity inp site written = false := by
  simp [wrongParity, h]

theorem State.hardwareTraps_quiet {inp : BoardInput} (h : inp.upsets = []) (a : State) (cur : Option Instr) :
    firstTrap (a.hardwareTraps inp cur) = none := by
  cases cur <;> simp [State.hardwareTraps, h, wrongParity_quiet h, firstTrap]

theorem State.preciseError_quiet {inp : BoardInput} (h : inp.upsets = []) (a : State) (cur : Option Instr) :
    a.preciseError inp cur = false := by
  simp [State.preciseError, h, wrongParity_quiet h]

theorem State.hardwareTraps_idle (s a : State) (cur : Option Instr) (hb : s.board = []) :
    firstTrap (a.hardwareTraps s.input cur) = none :=
  State.hardwareTraps_quiet (s.upsets_idle hb) a cur

theorem State.preciseError_idle (s a : State) (cur : Option Instr) (hb : s.board = []) :
    a.preciseError s.input cur = false :=
  State.preciseError_quiet (s.upsets_idle hb) a cur

/-- With no input of the board left, an executed instruction ends as its meaning leaves it. -/
theorem State.finish_idle (s u t : State) (i : Instr) (hb : s.board = []) : u.finish s.input i t = t := by
  simp [State.finish, s.upsets_idle hb, wrongParity_quiet (s.upsets_idle hb), s.preciseError_idle u _ hb]

theorem State.executeBoundary_hardware {a : State} {inp : BoardInput} {trap : Trap}
    (h : firstTrap (a.hardwareTraps inp a.current) = some trap) : a.executeBoundary inp = .over (a.hardwareTrap trap) := by
  simp [State.executeBoundary, h]

theorem State.executeBoundary_interrupt {a : State} {inp : BoardInput} (h : firstTrap (a.hardwareTraps inp a.current) = none)
    (hi : a.interruptPending = true) (hp : a.preciseError inp a.current = false) :
    a.executeBoundary inp = .over a.takeInterrupt := by
  simp [State.executeBoundary, h, hi, hp]

theorem State.executeBoundary_annul {a : State} {inp : BoardInput} (h : firstTrap (a.hardwareTraps inp a.current) = none)
    (hi : a.interruptPending = false) (ha : a.annul = true) : a.executeBoundary inp = .over a.skip := by
  simp [State.executeBoundary, h, hi, ha]

theorem State.executeBoundary_refused {a : State} {inp : BoardInput} (h : firstTrap (a.hardwareTraps inp a.current) = none)
    (hi : a.interruptPending = false) (ha : a.annul = false) (hr : a.fetchRefused = true)
    (hp : a.preciseError inp a.current = false) : a.executeBoundary inp = .over (a.raise .instructionAccess) := by
  simp [State.executeBoundary, h, hi, ha, hr, hp]

theorem State.executeBoundary_run {a : State} {inp : BoardInput} (h : firstTrap (a.hardwareTraps inp a.current) = none)
    (hi : (a.interruptPending && !a.preciseError inp a.current) = false) (ha : a.annul = false) (hr : a.fetchRefused = false) :
    a.executeBoundary inp = .run a.fetchedWord (a.latch a.fetchedWord) := by
  simp [State.executeBoundary, h, hi, ha, hr]

/-- How the step of an executed instruction can end: with a hardware error of the TBR, of load data, of what the instruction
uses, or as its meaning leaves it. -/
theorem State.finish_cases (s t : State) (inp : BoardInput) (i : Instr) :
    s.finish inp i t = s.hardwareTrap .nonRestartable ∨
      s.finish inp i t = ((s.afterLoad i t).spoil (loadTarget i)).hardwareTrap .restartableLate ∨
      s.finish inp i t = s.hardwareTrap .restartablePrecise ∨ s.finish inp i t = t := by
  unfold State.finish
  split
  · exact .inl rfl
  split
  · exact .inr (.inl rfl)
  split
  · exact .inr (.inr (.inl rfl))
  · exact .inr (.inr (.inr rfl))

/-- A boundary that ends the step gives its next state. -/
theorem step_of_over {s t : State} (h : s.boundary = .over t) : step s = .next t := by
  simp [step, h]

/-- A boundary that runs a word executes what it decodes to. -/
theorem step_of_run {s u v : State} {w : Word} (h : s.boundary = .run w u) (hv : u.executeWord s.input w = .next v) :
    step s = .next (u.finish s.input (decode w) v) := by
  simp [step, h, hv]

/-- What a step that has a next state does: the boundary ends it, or the word fetched is executed. -/
theorem step_next {s t : State} (h : step s = .next t) :
    s.boundary = .over t ∨
      ∃ w u v, s.boundary = .run w u ∧ u.executeWord s.input w = .next v ∧ t = u.finish s.input (decode w) v := by
  unfold step at h
  split at h
  · exact absurd h (by simp)
  · exact absurd h (by simp)
  · rename_i t' heq
    simp only [Host.Outcome.next.injEq] at h
    exact .inl (h ▸ heq)
  · rename_i w u heq
    split at h
    · rename_i v hv
      simp only [Host.Outcome.next.injEq] at h
      exact .inr ⟨w, u, v, heq, hv, h.symm⟩
    · exact absurd h (by simp)
    · exact absurd h (by simp)

end Sys2Proof.Machine
end

