-- ==== Sys2Proof/Laws/Units.lean ====
section
/-! SUPPORT. The state register of an attached unit and its condition code field, wherever that field stands (spec
41_fp_cp_load_store.md R264). -/

namespace Sys2Proof.Machine

/-- A bit of a state register with its condition code field replaced. -/
theorem getLsbD_withCc (u : UnitId) (w : Word) (cc : BitVec 2) (j : Nat) (hj : j < 32) :
    (withCc u w cc).getLsbD j =
      if (ccPlace u).val ≤ j ∧ j < (ccPlace u).val + 2 then cc.getLsbD (j - (ccPlace u).val) else w.getLsbD j := by
  unfold withCc
  generalize ccPlace u = p
  obtain ⟨p, hp⟩ := p
  have h3 : ∀ k, (3#32).getLsbD k = decide (k < 2) := by
    intro k
    by_cases hk : k < 32
    · revert k
      decide
    · simp [show ¬k < 2 by omega, BitVec.getLsbD_of_ge _ k (by omega : 32 ≤ k)]
  have hcc : ∀ k, ¬k < 2 → cc.getLsbD k = false := fun k hk => BitVec.getLsbD_of_ge cc k (by omega)
  simp only [BitVec.getLsbD_or, BitVec.getLsbD_and, BitVec.getLsbD_not, BitVec.getLsbD_shiftLeft, hj, h3, decide_true,
    Bool.true_and, BitVec.getLsbD_setWidth]
  by_cases h1 : p ≤ j
  · by_cases h2 : j < p + 2
    · simp [h1, h2, show ¬ j < p by omega, show j - p < 2 by omega, show j - p < 32 by omega]
    · simp [h2, show ¬ j < p by omega, show ¬ j - p < 2 by omega, hcc (j - p) (by omega)]
  · simp [h1, show j < p by omega]

/-- The field replaced is the field read. -/
theorem ccOfStatus_withCc (u : UnitId) (w : Word) (cc : BitVec 2) : ccOfStatus u (withCc u w cc) = cc := by
  refine BitVec.eq_of_getLsbD_eq fun j hj => ?_
  have hp := (ccPlace u).isLt
  simp only [ccOfStatus, BitVec.getLsbD_extractLsb', hj, decide_true, Bool.true_and]
  rw [getLsbD_withCc u w cc _ (by omega), if_pos (by omega)]
  simp

/-- Replacing the field by itself changes nothing. -/
theorem withCc_ccOfStatus (u : UnitId) (w : Word) : withCc u w (ccOfStatus u w) = w := by
  refine BitVec.eq_of_getLsbD_eq fun j hj => ?_
  rw [getLsbD_withCc u w _ j hj]
  split
  · rename_i h
    simp [ccOfStatus, show j - (ccPlace u).val < 2 by omega, show (ccPlace u).val + (j - (ccPlace u).val) = j by omega]
  · rfl

/-- The state register as it is read shows the condition codes of the unit (R264, R272). -/
@[simp] theorem CoUnit.ccOfStatus_statusWord (u : UnitId) (x : CoUnit) : ccOfStatus u (x.statusWord u) = x.cc :=
  ccOfStatus_withCc u x.status x.cc

/-- What an operation with an open outcome can do to a unit: the exception mode stays, and either the unit accepts it, its queue
as it was, or has an exception pending with the instruction at the end of its queue (45_fpop_cpop.md R447). -/
theorem CoUnit.openOutcome_cases (x : CoUnit) (k : Nat) (addr instr : Word) :
    (x.openOutcome k addr instr).excMode = x.excMode ∧
      (((x.openOutcome k addr instr).excPending = x.excPending ∧ (x.openOutcome k addr instr).queue = x.queue) ∨
        ((x.openOutcome k addr instr).excPending = true ∧
          (x.openOutcome k addr instr).queue = x.queue ++ [{ addr := addr, instr := instr }])) := by
  cases h : Config.unitPending k <;> simp [CoUnit.openOutcome, h, CoUnit.fail]

end Sys2Proof.Machine
end

