-- ==== Sys2Proof/Tests/Slice0.lean ====
section
/-! SUPPORT. The model's own tests: ill-formed terms, words written out from the encodings of spec/30_encoding.md, and
the vectors of spec/95_test_vectors.md part 2 (their names are in the docstrings). -/

namespace Sys2Proof.Tests

open Sys2Proof.Machine

set_option Elab.async false

/-! ## Helpers -/

/-- The state of the vectors: PC = 0x100, TBA = 0x00004, a given PSR. -/
def start (psr : Word) : State :=
  { State.reset with pc := 0x100#32, npc := 0x104#32, psr := Psr.ofWord psr, tbr := { tba := 4#20, tt := 0#8 } }

/-- With registers of the current window. -/
def regs (s : State) (rs : List (RegNum × Word)) : State := rs.foldl (fun s r => s.setReg r.1 r.2) s

/-- With bytes of the common space from an address on. -/
def bytes (s : State) (a : Word) (bs : List Byte) : State := { s with mem := s.mem.writeBytes 0x0B#8 a bs }

/-- The state after one step that executes the word `w`. -/
def after (w : Nat) (s : State) : State :=
  match step (s.withFetchWord 32 w) with
  | .next t => t
  | _ => State.reset

/-- The state after one step as it stands. -/
def stepped (s : State) : State :=
  match step s with
  | .next t => t
  | _ => State.reset

/-- With a coprocessor present whose CCC is `cc`. -/
def withCp (s : State) (cc : BitVec 2) : State :=
  { s with cp := { CoUnit.reset with cc := cc }, pins := { Pins.reset with cpPresent := true } }

/-- icc as N Z V C. -/
def icc (s : State) : List Bool := [s.psr.icc.n, s.psr.icc.z, s.psr.icc.v, s.psr.icc.c]

/-- Bytes of the common space. -/
def dump (s : State) (a : Word) (n : Nat) : List Nat :=
  (List.range n).map fun j => (s.readByte 0x0B#8 (a + BitVec.ofNat 32 j)).toNat

/-- Program counters. -/
def pcs (s : State) : Word × Word := (s.pc, s.npc)

/-! ## Ill-formed terms are refused -/

theorem test_wellFormed_refuses_assigned_fpop1 : WellFormed (.fpop1Reserved 1#5 2#5 0x041#9 3#5) = false := by decide

theorem test_wellFormed_refuses_assigned_fpop2 : WellFormed (.fpop2Reserved 1#5 2#5 0x051#9 3#5) = false := by decide

theorem test_wellFormed_accepts_reserved_opf : WellFormed (.fpop1Reserved 1#5 2#5 0x051#9 3#5) = true := by decide

/-! ## Decoding: words written out field by field from the formats of R151 and the maps R154, R165 to R169 -/

theorem test_decode_integer_memory :
    [0xD607C005#32, 0xE608BAC3#32, 0xD010C012#32, 0xEA1CE2FB#32, 0xF821400A#32, 0xF62DA404#32, 0xC4350007#32,
      0xD43A3337#32, 0xE04F400B#32, 0xF252E4F7#32, 0xE46CC01A#32, 0xF47BE428#32, 0xF085C0CA#32, 0xFE8BEDF7#32,
      0xD49142B8#32, 0xCC9BF1D1#32, 0xDCA304F6#32, 0xD0ADB20B#32, 0xCAB38EB2#32, 0xFABF26A0#32, 0xEACB43A2#32,
      0xD6D5267E#32, 0xD8ED1EA1#32, 0xD8FD3F3C#32].map decode =
    [.ld 11#5 31#5 (.reg 5#5), .ldub 19#5 2#5 (.imm 0x1AC3#13), .lduh 8#5 3#5 (.reg 18#5),
      .ldd 21#5 19#5 (.imm 0x2FB#13), .st 28#5 5#5 (.reg 10#5), .stb 27#5 22#5 (.imm 0x404#13),
      .sth 2#5 20#5 (.reg 7#5), .std 10#5 8#5 (.imm 0x1337#13), .ldsb 16#5 29#5 (.reg 11#5),
      .ldsh 25#5 11#5 (.imm 0x4F7#13), .ldstub 18#5 19#5 (.reg 26#5), .swap 26#5 15#5 (.imm 0x428#13),
      .lda 24#5 23#5 (.reg 0x6#8 10#5), .lduba 31#5 15#5 (.imm 0xDF7#13), .lduha 10#5 5#5 (.reg 0x15#8 24#5),
      .ldda 6#5 15#5 (.imm 0x11D1#13), .sta 14#5 12#5 (.reg 0x27#8 22#5), .stba 8#5 22#5 (.imm 0x120B#13),
      .stha 5#5 14#5 (.reg 0x75#8 18#5), .stda 29#5 28#5 (.imm 0x6A0#13), .ldsba 21#5 13#5 (.reg 0x1D#8 2#5),
      .ldsha 11#5 20#5 (.imm 0x67E#13), .ldstuba 12#5 20#5 (.reg 0xF5#8 1#5), .swapa 12#5 20#5 (.imm 0x1F3C#13)
      ] := by decide +kernel

theorem test_decode_unit_memory :
    [0xDF040010#32, 0xC10C3726#32, 0xEF1C801E#32, 0xD927AE46#32, 0xC12E8019#32, 0xC1343096#32, 0xEF3D001F#32,
      0xD1813EE3#32, 0xC18D001B#32, 0xED992B6C#32, 0xF5A5400B#32, 0xC1A9A95A#32, 0xC1B50010#32, 0xF1BD6D81#32
      ].map decode =
    [.ldf 15#5 16#5 (.reg 16#5), .ldfsr 16#5 (.imm 0x1726#13), .lddf 23#5 18#5 (.reg 30#5),
      .stf 12#5 30#5 (.imm 0xE46#13), .stfsr 26#5 (.reg 25#5), .stdfq 16#5 (.imm 0x1096#13),
      .stdf 23#5 20#5 (.reg 31#5), .ldc 8#5 4#5 (.imm 0x1EE3#13), .ldcsr 20#5 (.reg 27#5),
      .lddc 22#5 4#5 (.imm 0xB6C#13), .stc 26#5 21#5 (.reg 11#5), .stcsr 6#5 (.imm 0x95A#13),
      .stdcq 20#5 (.reg 16#5), .stdc 24#5 21#5 (.imm 0xD81#13)] := by decide +kernel

theorem test_decode_arithmetic_1 :
    [0x9201C00A#32, 0x8A08A85E#32, 0x8A144011#32, 0xB41963F3#32, 0xAC244011#32, 0x842E74D6#32, 0xA2350011#32,
      0xBE3A3AAA#32, 0x9A43C00B#32, 0x9466A8C8#32, 0x9E820018#32, 0xAE8BB6D2#32, 0x8696000C#32, 0x969C6EA0#32,
      0xBAA10003#32, 0xB2A97FA7#32, 0x96B0C009#32, 0xBEB86E3B#32, 0x92C70004#32, 0xBCE26701#32, 0x8D024002#32,
      0xB309E129#32, 0x93108001#32, 0xAD1EF3B2#32].map decode =
    [.add 9#5 7#5 (.reg 10#5), .and 5#5 2#5 (.imm 0x85E#13), .or 5#5 17#5 (.reg 17#5),
      .xor 26#5 5#5 (.imm 0x3F3#13), .sub 22#5 17#5 (.reg 17#5), .andn 2#5 25#5 (.imm 0x14D6#13),
      .orn 17#5 20#5 (.reg 17#5), .xnor 31#5 8#5 (.imm 0x1AAA#13), .addx 13#5 15#5 (.reg 11#5),
      .subx 10#5 26#5 (.imm 0x8C8#13), .addcc 15#5 8#5 (.reg 24#5), .andcc 23#5 14#5 (.imm 0x16D2#13),
      .orcc 3#5 24#5 (.reg 12#5), .xorcc 11#5 17#5 (.imm 0xEA0#13), .subcc 29#5 4#5 (.reg 3#5),
      .andncc 25#5 5#5 (.imm 0x1FA7#13), .orncc 11#5 3#5 (.reg 9#5), .xnorcc 31#5 1#5 (.imm 0xE3B#13),
      .addxcc 9#5 28#5 (.reg 4#5), .subxcc 30#5 9#5 (.imm 0x701#13), .taddcc 6#5 9#5 (.reg 2#5),
      .tsubcc 25#5 7#5 (.imm 0x129#13), .taddcctv 9#5 2#5 (.reg 1#5), .tsubcctv 22#5 27#5 (.imm 0x13B2#13)
      ] := by decide +kernel

theorem test_decode_arithmetic_2 :
    [0x8F22000B#32, 0x8B286002#32, 0xB733401C#32, 0x8D3A601F#32, 0x25279F44#32].map decode =
    [.mulscc 7#5 8#5 (.reg 11#5), .sll 5#5 1#5 (.imm 2#5), .srl 27#5 13#5 (.reg 28#5),
      .sra 6#5 9#5 (.imm 31#5), .sethi 18#5 0x279F44#22] := by decide +kernel

theorem test_decode_bicc :
    [0x00BCC11F#32, 0x22926A2C#32, 0x048AD054#32, 0x2692873D#32, 0x08820EE6#32, 0x2A8D6DE7#32, 0x0C9F4DBB#32,
      0x2E8BC4C0#32, 0x109A4491#32, 0x32A4C6DF#32, 0x14A6F724#32, 0x369BDD61#32, 0x188F2B1A#32, 0x3AB9879B#32,
      0x1CA182F4#32, 0x3E9D9DFA#32].map decode =
    [.bn false 0x3CC11F#22, .be true 0x126A2C#22, .ble false 0xAD054#22, .bl true 0x12873D#22,
      .bleu false 0x20EE6#22, .bcs true 0xD6DE7#22, .bneg false 0x1F4DBB#22, .bvs true 0xBC4C0#22,
      .ba false 0x1A4491#22, .bne true 0x24C6DF#22, .bg false 0x26F724#22, .bge true 0x1BDD61#22,
      .bgu false 0xF2B1A#22, .bcc true 0x39879B#22, .bpos false 0x2182F4#22, .bvc true 0x1D9DFA#22
      ] := by decide +kernel

theorem test_decode_fbfcc :
    [0x01B9B283#32, 0x238F79F5#32, 0x05990E0B#32, 0x2789C77F#32, 0x09869B67#32, 0x2BAFC9E8#32, 0x0D9A0A2F#32,
      0x2FA4A279#32, 0x11A41041#32, 0x33BDD8E8#32, 0x15BFA02D#32, 0x3798A0CB#32, 0x19AF24A1#32, 0x3BB4FA23#32,
      0x1DAE193D#32, 0x3FB911E3#32].map decode =
    [.fbn false 0x39B283#22, .fbne true 0xF79F5#22, .fblg false 0x190E0B#22, .fbul true 0x9C77F#22,
      .fbl false 0x69B67#22, .fbug true 0x2FC9E8#22, .fbg false 0x1A0A2F#22, .fbu true 0x24A279#22,
      .fba false 0x241041#22, .fbe true 0x3DD8E8#22, .fbue false 0x3FA02D#22, .fbge true 0x18A0CB#22,
      .fbuge false 0x2F24A1#22, .fble true 0x34FA23#22, .fbule false 0x2E193D#22, .fbo true 0x3911E3#22
      ] := by decide +kernel

theorem test_decode_cbccc :
    [0x01FC940E#32, 0x23FBEC62#32, 0x05CDF01E#32, 0x27C4CFCE#32, 0x09CE5A5D#32, 0x2BC025BF#32, 0x0DDF0592#32,
      0x2FE758CF#32, 0x11CA6139#32, 0x33C45D4D#32, 0x15C8A1A0#32, 0x37FB88DB#32, 0x19D7F9E1#32, 0x3BF25CE5#32,
      0x1DD790BF#32, 0x3FD5337C#32].map decode =
    [.cbn false 0x3C940E#22, .cb123 true 0x3BEC62#22, .cb12 false 0xDF01E#22, .cb13 true 0x4CFCE#22,
      .cb1 false 0xE5A5D#22, .cb23 true 0x25BF#22, .cb2 false 0x1F0592#22, .cb3 true 0x2758CF#22,
      .cba false 0xA6139#22, .cb0 true 0x45D4D#22, .cb03 false 0x8A1A0#22, .cb02 true 0x3B88DB#22,
      .cb023 false 0x17F9E1#22, .cb01 true 0x325CE5#22, .cb013 false 0x1790BF#22, .cb012 true 0x15337C#22
      ] := by decide +kernel

theorem test_decode_control_transfer :
    [0x6A751030#32, 0x83C0E7EA#32, 0x81CE4007#32, 0x85E5F4B1#32, 0xB1EF4010#32].map decode =
    [.call 0x2A751030#30, .jmpl 1#5 3#5 (.imm 0x7EA#13), .rett 25#5 (.reg 7#5), .save 2#5 23#5 (.imm 0x14B1#13),
      .restore 24#5 29#5 (.reg 16#5)] := by decide +kernel

theorem test_decode_ticc :
    [0x81D0800F#32, 0x83D2F441#32, 0x85D28001#32, 0x87D3FF95#32, 0x89D40006#32, 0x8BD2EA3C#32, 0x8DD0C015#32,
      0x8FD0FFE7#32, 0x91D3C006#32, 0x93D73121#32, 0x95D60009#32, 0x97D2B01B#32, 0x99D44011#32, 0x9BD772CB#32,
      0x9DD08007#32, 0x9FD26265#32].map decode =
    [.tn 2#5 (.reg 15#5), .te 11#5 (.imm 0x1441#13), .tle 10#5 (.reg 1#5), .tl 15#5 (.imm 0x1F95#13),
      .tleu 16#5 (.reg 6#5), .tcs 11#5 (.imm 0xA3C#13), .tneg 3#5 (.reg 21#5), .tvs 3#5 (.imm 0x1FE7#13),
      .ta 15#5 (.reg 6#5), .tne 28#5 (.imm 0x1121#13), .tg 24#5 (.reg 9#5), .tge 10#5 (.imm 0x101B#13),
      .tgu 17#5 (.reg 17#5), .tcc 29#5 (.imm 0x12CB#13), .tpos 2#5 (.reg 7#5), .tvc 9#5 (.imm 0x265#13)
      ] := by decide +kernel

theorem test_decode_control_registers :
    [0x97400000#32, 0x83480000#32, 0x8F500000#32, 0x9B580000#32, 0x8185800A#32, 0x818879EB#32, 0x8190400E#32,
      0x819F634E#32].map decode =
    [.rdy 11#5, .rdpsr 1#5, .rdwim 7#5, .rdtbr 13#5, .wry 22#5 (.reg 10#5), .wrpsr 1#5 (.imm 0x19EB#13),
      .wrwim 1#5 (.reg 14#5), .wrtbr 29#5 (.imm 0x34E#13)] := by decide +kernel

theorem test_decode_operate_1 :
    [0x8BA0003A#32, 0x99A000A6#32, 0xB5A0013F#32, 0xBDA0052B#32, 0xB5A00548#32, 0x9BA00571#32, 0xB1A6C83D#32,
      0x9BA5084F#32, 0x9BA5886C#32, 0xA1A3C8A8#32, 0x89A0C8C5#32, 0xA3A588E2#32, 0xB1A44923#32, 0xB1A5C95B#32,
      0xBFA6897E#32, 0xB3A249A6#32, 0xBFA789D0#32, 0x8FA189ED#32, 0xB5A01889#32, 0xA3A018D7#32, 0x9BA018F3#32,
      0x91A01914#32, 0x83A01922#32, 0xA3A0197D#32].map decode =
    [.fmovs 5#5 26#5, .fnegs 12#5 6#5, .fabss 26#5 31#5, .fsqrts 30#5 11#5, .fsqrtd 26#5 8#5,
      .fsqrtx 13#5 17#5, .fadds 24#5 27#5 29#5, .faddd 13#5 20#5 15#5, .faddx 13#5 22#5 12#5,
      .fsubs 16#5 15#5 8#5, .fsubd 4#5 3#5 5#5, .fsubx 17#5 22#5 2#5, .fmuls 24#5 17#5 3#5,
      .fmuld 24#5 23#5 27#5, .fmulx 31#5 26#5 30#5, .fdivs 25#5 9#5 6#5, .fdivd 31#5 30#5 16#5,
      .fdivx 7#5 6#5 13#5, .fitos 26#5 9#5, .fdtos 17#5 23#5, .fxtos 13#5 19#5, .fitod 8#5 20#5,
      .fstod 1#5 2#5, .fxtod 17#5 29#5] := by decide +kernel

theorem test_decode_operate_2 :
    [0x85A01993#32, 0x91A019B3#32, 0x8BA019DE#32, 0x8BA01A36#32, 0xABA01A52#32, 0x83A01A62#32, 0x81AE4A24#32,
      0x81AD4A51#32, 0x81AF4A78#32, 0x81ABCAA3#32, 0x81A88AC4#32, 0x81AF8AF1#32, 0x93A76AA8#32, 0xA9AA2AAD#32,
      0xBFB62AA8#32, 0xBDB9AAA5#32].map decode =
    [.fitox 2#5 19#5, .fstox 8#5 19#5, .fdtox 5#5 30#5, .fstoi 5#5 22#5, .fdtoi 21#5 18#5,
      .fxtoi 1#5 2#5, .fcmps 25#5 4#5, .fcmpd 21#5 17#5, .fcmpx 29#5 24#5, .fcmpes 15#5 3#5,
      .fcmped 2#5 4#5, .fcmpex 30#5 17#5, .fpop1Reserved 9#5 29#5 0x155#9 8#5, .fpop2Reserved 20#5 8#5 0x155#9 13#5,
      .cpop1 31#5 24#5 0x155#9 8#5, .cpop2 30#5 6#5 0x155#9 5#5] := by decide +kernel

theorem test_decode_misc :
    [0x000554C4#32, 0x81DE2438#32].map decode =
    [.unimp 0x554C4#22, .iflush 24#5 (.imm 0x438#13)] := by decide +kernel

theorem test_decode_reserved_1 :
    [0x00400000#32, 0x00C00000#32, 0x01400000#32, 0x80480000#32, 0x80500000#32, 0x80580000#32, 0x80680000#32,
      0x80700000#32, 0x80780000#32, 0x80C80000#32, 0x80D00000#32, 0x80D80000#32, 0x80E80000#32, 0x80F00000#32,
      0x80F80000#32, 0x81600000#32, 0x81680000#32, 0x81700000#32, 0x81780000#32, 0x81F00000#32, 0x81F80000#32,
      0xC0400000#32, 0xC0580000#32, 0xC0600000#32].map decode =
    [.reservedOp00_001, .reservedOp00_011, .reservedOp00_101, .reservedOp10_001001, .reservedOp10_001010,
      .reservedOp10_001011, .reservedOp10_001101, .reservedOp10_001110, .reservedOp10_001111,
      .reservedOp10_011001, .reservedOp10_011010, .reservedOp10_011011, .reservedOp10_011101,
      .reservedOp10_011110, .reservedOp10_011111, .reservedOp10_101100, .reservedOp10_101101,
      .reservedOp10_101110, .reservedOp10_101111, .reservedOp10_111110, .reservedOp10_111111,
      .reservedOp11_001000, .reservedOp11_001011, .reservedOp11_001100] := by decide +kernel

theorem test_decode_reserved_2 :
    [0xC0700000#32, 0xC0C00000#32, 0xC0D80000#32, 0xC0E00000#32, 0xC0F00000#32, 0xC1100000#32, 0xC1400000#32,
      0xC1480000#32, 0xC1500000#32, 0xC1580000#32, 0xC1600000#32, 0xC1680000#32, 0xC1700000#32, 0xC1780000#32,
      0xC1900000#32, 0xC1C00000#32, 0xC1C80000#32, 0xC1D00000#32, 0xC1D80000#32, 0xC1E00000#32, 0xC1E80000#32,
      0xC1F00000#32, 0xC1F80000#32].map decode =
    [.reservedOp11_001110, .reservedOp11_011000, .reservedOp11_011011, .reservedOp11_011100,
      .reservedOp11_011110, .reservedOp11_100010, .reservedOp11_101000, .reservedOp11_101001,
      .reservedOp11_101010, .reservedOp11_101011, .reservedOp11_101100, .reservedOp11_101101,
      .reservedOp11_101110, .reservedOp11_101111, .reservedOp11_110010, .reservedOp11_111000,
      .reservedOp11_111001, .reservedOp11_111010, .reservedOp11_111011, .reservedOp11_111100,
      .reservedOp11_111101, .reservedOp11_111110, .reservedOp11_111111] := by decide +kernel

/-- Ignored fields (R157): X10, X2 and a Ticc with bit 29 set. -/
theorem test_decode_ignored_fields :
    [0x814FFFFF#32, 0x3E00002A#32, 0xB1D02003#32, 0xA1DA2003#32, 0x87A7C021#32].map decode =
    [.rdpsr 0#5, .unimp 0x2A#22, .ta 0#5 (.imm 3#13), .iflush 8#5 (.imm 3#13), .fmovs 3#5 1#5] := by decide +kernel

theorem test_decodeBytes_refuses_short : decodeBytes [0x81#8, 0xC3#8, 0xE0#8] = .error .notOneWord := by rfl

theorem test_decodeTableWord : decodeTableWord 32 0x81C3E008 = some (.jmpl 0#5 15#5 (.imm 8#13)) := by decide +kernel

/-! ## Conditions (vectors 2.5) -/

/-- The sixteen values of icc in order. -/
def iccs : List Icc :=
  [false, true].flatMap fun n => [false, true].flatMap fun z => [false, true].flatMap fun v =>
    [false, true].map fun c => { n := n, z := z, v := v, c := c }

/-- A table row of digits. -/
def digits (l : List Bool) : Nat := l.foldl (fun a b => 2 * a + b.toNat) 0

theorem test_icc_conditions :
    (List.range 16).map (fun c => digits (iccs.map (iccTest (BitVec.ofNat 4 c)))) =
    [0b0000000000000000, 0b0000111100001111, 0b0011111111001111, 0b0011001111001100, 0b0101111101011111,
     0b0101010101010101, 0b0000000011111111, 0b0011001100110011, 0b1111111111111111, 0b1111000011110000,
     0b1100000000110000, 0b1100110000110011, 0b1010000010100000, 0b1010101010101010, 0b1111111100000000,
     0b1100110011001100] := by decide +kernel

theorem test_cc_conditions :
    (List.range 16).map (fun c => digits ([0#2, 1#2, 2#2, 3#2].map (ccTest (BitVec.ofNat 4 c)))) =
    [0b0000, 0b0111, 0b0110, 0b0101, 0b0100, 0b0011, 0b0010, 0b0001, 0b1111, 0b1000, 0b1001, 0b1010, 0b1011, 0b1100,
     0b1101, 0b1110] := by decide +kernel

/-! ## Loads and stores (vectors 2.1, 2.2) -/

/-- The memory of the vectors, and register values. -/
def mem8 (psr : Word) (rs : List (RegNum × Word)) : State :=
  regs (bytes (start psr) 0x1000#32 [0x80#8, 0x01#8, 0xFF#8, 0x7F#8, 0x12#8, 0x34#8, 0x56#8, 0x78#8]) rs

/-- M1. -/
theorem test_ldsb :
    (after 0xD4484000 (mem8 0x110000A0#32 [(1#5, 0x1000#32)])).reg 10#5 = 0xFFFFFF80#32 := by decide +kernel

/-- M2. -/
theorem test_ldub :
    (after 0xD4084000 (mem8 0x110000A0#32 [(1#5, 0x1000#32)])).reg 10#5 = 0x80#32 := by decide +kernel

/-- M3. -/
theorem test_lduh :
    (after 0xD4106002 (mem8 0x110000A0#32 [(1#5, 0x1000#32)])).reg 10#5 = 0xFF7F#32 := by decide +kernel

/-- M4. -/
theorem test_ldsh :
    (after 0xD4506002 (mem8 0x110000A0#32 [(1#5, 0x1000#32)])).reg 10#5 = 0xFFFFFF7F#32 := by decide +kernel

/-- M6: the address is a sum modulo 2^32. -/
theorem test_ld_wraps :
    (after 0xD4004002 (mem8 0x110000A0#32 [(1#5, 0x1008#32), (2#5, 0xFFFFFFFC#32)])).reg 10#5 = 0x12345678#32 := by decide +kernel

/-- M10. -/
theorem test_ld_misaligned :
    (fun t : State => (pcs t, t.psr.word, t.tbr.tt, t.regIn 7#3 17#5, t.regIn 7#3 18#5))
      (after 0xD4006002 (mem8 0x110000A0#32 [(1#5, 0x1000#32)])) = ((0x4070#32, 0x4074#32), 0x110000C7#32, 7#8, 0x100#32, 0x104#32) := by decide +kernel

/-- M8. -/
theorem test_ldd_odd :
    (fun t : State => (t.reg 10#5, t.reg 11#5)) (after 0xD6184000 (mem8 0x110000A0#32 [(1#5, 0x1000#32)])) =
      (0x8001FF7F#32, 0x12345678#32) := by decide +kernel

/-- M9. -/
theorem test_ldd_r0 :
    (fun t : State => (t.reg 0#5, t.reg 1#5)) (after 0xC0184000 (mem8 0x110000A0#32 [(1#5, 0x1000#32)])) = (0#32, 0x12345678#32) := by decide +kernel

/-- M12. -/
theorem test_st :
    dump (after 0xD6207FFC (mem8 0x110000A0#32 [(1#5, 0x1000#32), (10#5, 0x11223344#32), (11#5, 0xAABBCCDD#32)])) 0xFFC#32 5 = [0xAA, 0xBB, 0xCC, 0xDD, 0x80] := by decide +kernel

/-- M13. -/
theorem test_stb :
    dump (after 0xD6286001 (mem8 0x110000A0#32 [(1#5, 0x1000#32), (10#5, 0x11223344#32), (11#5, 0xAABBCCDD#32)])) 0x1000#32 3 = [0x80, 0xDD, 0xFF] := by decide +kernel

/-- M14. -/
theorem test_sth :
    dump (after 0xD6306002 (mem8 0x110000A0#32 [(1#5, 0x1000#32), (10#5, 0x11223344#32), (11#5, 0xAABBCCDD#32)])) 0x1000#32 5 = [0x80, 0x01, 0xCC, 0xDD, 0x12] := by decide +kernel

/-- M16. -/
theorem test_std :
    dump (after 0xD4384000 (mem8 0x110000A0#32 [(1#5, 0x1000#32), (10#5, 0x11223344#32), (11#5, 0xAABBCCDD#32)])) 0x1000#32 8 =
      [0x11, 0x22, 0x33, 0x44, 0xAA, 0xBB, 0xCC, 0xDD] := by decide +kernel

/-- M17. -/
theorem test_std_odd :
    dump (after 0xD6384000 (mem8 0x110000A0#32 [(1#5, 0x1000#32), (10#5, 0x11223344#32), (11#5, 0xAABBCCDD#32)])) 0x1000#32 8 =
      [0x11, 0x22, 0x33, 0x44, 0xAA, 0xBB, 0xCC, 0xDD] := by decide +kernel

/-- M18. -/
theorem test_ldstub :
    (fun t : State => (t.reg 10#5, dump t 0x1002#32 3)) (after 0xD4686003 (mem8 0x110000A0#32 [(1#5, 0x1000#32)])) =
      (0x7F#32, [0xFF, 0xFF, 0x12]) := by decide +kernel

/-- M19. -/
theorem test_swap :
    (fun t : State => (t.reg 11#5, dump t 0x1003#32 5)) (after 0xD6786004 (mem8 0x110000A0#32 [(1#5, 0x1000#32), (10#5, 0x11223344#32), (11#5, 0xAABBCCDD#32)])) =
      (0x12345678#32, [0x7F, 0xAA, 0xBB, 0xCC, 0xDD]) := by decide +kernel

/-- M21. -/
theorem test_ld_refused :
    (fun t : State => (t.pc, t.reg 10#5)) (after 0xD4006004 { mem8 0x110000A0#32 [(1#5, 0x1000#32)] with mexc :=
      [{ lo := 0x1004#32, hi := 0x1004#32, asi := some 0x0B#8, size := none, kind := some .read, atomic := none }] }) =
      (0x4090#32, 0#32) := by decide +kernel

/-- M22. -/
theorem test_ld_user :
    (after 0xD4006004 (mem8 0x11000020#32 [(1#5, 0x1000#32)])).reg 10#5 = 0x12345678#32 := by decide +kernel

/-- L1. -/
theorem test_lda :
    (after 0xD4804140 (mem8 0x110000A0#32 [(1#5, 0x1004#32)])).reg 10#5 = 0x12345678#32 := by decide +kernel

/-- L2. -/
theorem test_lda_user :
    (fun t : State => (t.pc, t.psr.word)) (after 0xD4804140 (mem8 0x11000020#32 [(1#5, 0x1004#32)])) =
      (0x4030#32, 0x11000087#32) := by decide +kernel

/-- L3. -/
theorem test_lda_no_space :
    (after 0xD4804020 (mem8 0x110000A0#32 [(1#5, 0x1004#32)])).tbr.tt = 9#8 := by decide +kernel

/-- L4. -/
theorem test_sta :
    dump (after 0xD6A04162 (mem8 0x110000A0#32 [(1#5, 0x1000#32), (10#5, 0x11223344#32), (11#5, 0xAABBCCDD#32), (2#5, 8#32)])) 0x1008#32 4 = [0xAA, 0xBB, 0xCC, 0xDD] := by decide +kernel

/-- L5. -/
theorem test_lduba_immediate :
    (after 0xD4886140 (mem8 0x11000020#32 [(1#5, 0x1000#32)])).pc = 0x4020#32 := by decide +kernel

/-- L6. -/
theorem test_ldstuba :
    (fun t : State => (t.reg 10#5, dump t 0x1003#32 1)) (after 0xD4E84160 (mem8 0x110000A0#32 [(1#5, 0x1003#32)])) =
      (0x7F#32, [0xFF]) := by decide +kernel

/-- L7. -/
theorem test_swapa :
    (fun t : State => (t.reg 11#5, dump t 0x1004#32 4)) (after 0xD6F84140 (mem8 0x110000A0#32 [(1#5, 0x1004#32), (11#5, 0xAABBCCDD#32)])) =
      (0x12345678#32, [0xAA, 0xBB, 0xCC, 0xDD]) := by decide +kernel

/-- L8. -/
theorem test_ldda_odd :
    (fun t : State => (t.reg 10#5, t.reg 11#5)) (after 0xD6984140 (mem8 0x110000A0#32 [(1#5, 0x1000#32)])) =
      (0x8001FF7F#32, 0x12345678#32) := by decide +kernel

/-! ## The units' loads and stores (vectors 2.3) -/

/-- EF = 1, a double at 0x1000, f2 and f3 given. -/
def fp8 (psr : Word) (x : CoUnit) : State :=
  { bytes (regs (start psr) [(1#5, 0x1000#32)]) 0x1000#32
      [0x3F#8, 0xF0#8, 0x00#8, 0x00#8, 0x00#8, 0x00#8, 0x00#8, 0x01#8] with fpu := x }

/-- F2. -/
theorem test_ldf :
    (after 0xC7006004 (fp8 0x110010A0#32 CoUnit.reset)).fpu.reg 3#5 = 1#32 := by decide +kernel

/-- R295: an odd register is forced even. -/
theorem test_lddf_odd :
    (fun t : State => (t.fpu.reg 2#5, t.fpu.reg 3#5)) (after 0xC7184000 (fp8 0x110010A0#32 CoUnit.reset)) = (0x3FF00000#32, 1#32) := by decide +kernel

/-- F5. -/
theorem test_stf :
    dump (after 0xC5206008 (fp8 0x110010A0#32 (CoUnit.reset.setReg 2#5 0x40490FDB#32))) 0x1008#32 4 =
      [0x40, 0x49, 0x0F, 0xDB] := by decide +kernel

/-- F6: the word that STFSR stores is the FSR, its condition codes with it. -/
theorem test_stfsr :
    CoUnit.statusWord .fpu { CoUnit.reset with status := 0x01020304#32, cc := ccOfStatus .fpu 0x01020304#32 } =
      0x01020304#32 := withCc_ccOfStatus .fpu 0x01020304#32

/-- F7. -/
theorem test_stdfq :
    (fun t : State => (dump t 0x1008#32 8, t.fpu.excMode, t.fpu.queue))
      (after 0xC1306008 (fp8 0x110010A0#32 { CoUnit.reset with excMode := true, queue := [{ addr := 0x2000#32, instr := 0x85A00821#32 }] })) =
      ([0x00, 0x00, 0x20, 0x00, 0x85, 0xA0, 0x08, 0x21], false, []) := by decide +kernel

/-- F8. -/
theorem test_stdfq_user :
    (after 0xC1306008 (fp8 0x11001020#32 CoUnit.reset)).tbr.tt = 3#8 := by decide +kernel

/-- F10. -/
theorem test_stdf_odd :
    dump (after 0xC7386008 (fp8 0x110010A0#32 (CoUnit.reset.setPair 2#5 0x3FF00000#32 1#32))) 0x1008#32 8 =
      [0x3F, 0xF0, 0, 0, 0, 0, 0, 1] := by decide +kernel

/-- F11, F15. -/
theorem test_ldf_disabled :
    [(after 0xC5004000 (fp8 0x110000A0#32 CoUnit.reset)).tbr.tt, (after 0xC5006002 (fp8 0x110000A0#32 CoUnit.reset)).tbr.tt] =
      [4#8, 4#8] := by decide +kernel

/-- F13, F16. -/
theorem test_ldf_pending :
    [(after 0xC5004000 (fp8 0x110010A0#32 { CoUnit.reset with excPending := true })).tbr.tt,
      (after 0xC5006002 (fp8 0x110010A0#32 { CoUnit.reset with excPending := true })).tbr.tt] = [8#8, 7#8] := by decide +kernel

/-- F17. -/
theorem test_ldc_absent :
    (after 0xC5804000 (fp8 0x110010A0#32 CoUnit.reset)).pc = 0x4240#32 := by decide +kernel

/-- F18. -/
theorem test_stdcq_user :
    (after 0xC1B04000 (fp8 0x11001020#32 CoUnit.reset)).tbr.tt = 3#8 := by decide +kernel

/-! ## Arithmetic (vectors 2.4) -/

/-- A1. -/
theorem test_addcc_overflow :
    (fun t : State => (t.reg 10#5, icc t)) (after 0x94820009 (regs (start 0x110000A0#32) [(8#5, 0x7FFFFFFF#32), (9#5, 0x1#32)])) =
      (0x80000000#32, [true, false, true, false]) := by decide +kernel

/-- A2. -/
theorem test_addcc_carry :
    (fun t : State => (t.reg 10#5, icc t)) (after 0x94823FFF (regs (start 0x110000A0#32) [(8#5, 0x1#32)])) =
      (0x0#32, [false, true, false, true]) := by decide +kernel

/-- A3. -/
theorem test_addxcc :
    (fun t : State => (t.reg 10#5, icc t)) (after 0x94C20000 (regs (start 0x111000A0#32) [(8#5, 0xFFFFFFFF#32)])) =
      (0x0#32, [false, true, false, true]) := by decide +kernel

/-- A4. -/
theorem test_addx :
    (fun t : State => (t.reg 10#5, icc t)) (after 0x94422001 (regs (start 0x111000A0#32) [(8#5, 0x5#32)])) =
      (0x7#32, [false, false, false, true]) := by decide +kernel

/-- A5. -/
theorem test_subcc_compare :
    (fun t : State => (t.reg 0#5, icc t)) (after 0x80A20009 (regs (start 0x110000A0#32) [(8#5, 0x5#32), (9#5, 0x5#32)])) =
      (0x0#32, [false, true, false, false]) := by decide +kernel

/-- A6. -/
theorem test_subcc_overflow :
    (fun t : State => (t.reg 10#5, icc t)) (after 0x94A20009 (regs (start 0x110000A0#32) [(8#5, 0x80000000#32), (9#5, 0x1#32)])) =
      (0x7FFFFFFF#32, [false, false, true, false]) := by decide +kernel

/-- A8. -/
theorem test_subxcc :
    (fun t : State => (t.reg 10#5, icc t)) (after 0x94E00000 (regs (start 0x111000A0#32) [])) =
      (0xFFFFFFFF#32, [true, false, false, true]) := by decide +kernel

/-- A9. -/
theorem test_sub :
    (fun t : State => (t.reg 8#5, icc t)) (after 0x90200008 (regs (start 0x11F000A0#32) [(8#5, 0x1#32)])) =
      (0xFFFFFFFF#32, [true, true, true, true]) := by decide +kernel

/-- A10. -/
theorem test_and :
    (fun t : State => (t.reg 10#5, icc t)) (after 0x940A20FF (regs (start 0x110000A0#32) [(8#5, 0x12345678#32)])) =
      (0x78#32, [false, false, false, false]) := by decide +kernel

/-- A11. -/
theorem test_andn :
    (fun t : State => (t.reg 10#5, icc t)) (after 0x942A0009 (regs (start 0x110000A0#32) [(8#5, 0xFFFF0000#32), (9#5, 0xFF00FF00#32)])) =
      (0xFF0000#32, [false, false, false, false]) := by decide +kernel

/-- A12. -/
theorem test_orn :
    (fun t : State => (t.reg 10#5, icc t)) (after 0x94300009 (regs (start 0x110000A0#32) [(9#5, 0xFFFF#32)])) =
      (0xFFFF0000#32, [false, false, false, false]) := by decide +kernel

/-- A13. -/
theorem test_xor :
    (fun t : State => (t.reg 10#5, icc t)) (after 0x941A3FFF (regs (start 0x110000A0#32) [(8#5, 0x12345678#32)])) =
      (0xEDCBA987#32, [false, false, false, false]) := by decide +kernel

/-- A14. -/
theorem test_xnorcc :
    (fun t : State => (t.reg 10#5, icc t)) (after 0x94BA0008 (regs (start 0x110000A0#32) [(8#5, 0x12345678#32)])) =
      (0xFFFFFFFF#32, [true, false, false, false]) := by decide +kernel

/-- A15. -/
theorem test_andcc :
    (fun t : State => (t.reg 0#5, icc t)) (after 0x808A0009 (regs (start 0x11B000A0#32) [(8#5, 0xF0F0F0F0#32), (9#5, 0xF0F0F0F#32)])) =
      (0x0#32, [false, true, false, false]) := by decide +kernel

/-- A16. -/
theorem test_orcc :
    (fun t : State => (t.reg 0#5, icc t)) (after 0x80903FFF (regs (start 0x115000A0#32) [])) =
      (0x0#32, [true, false, false, false]) := by decide +kernel

/-- A17. -/
theorem test_sll :
    (fun t : State => (t.reg 10#5, icc t)) (after 0x952A0009 (regs (start 0x110000A0#32) [(8#5, 0x1#32), (9#5, 0x21#32)])) =
      (0x2#32, [false, false, false, false]) := by decide +kernel

/-- A19. -/
theorem test_srl :
    (fun t : State => (t.reg 10#5, icc t)) (after 0x9532201F (regs (start 0x110000A0#32) [(8#5, 0x80000000#32)])) =
      (0x1#32, [false, false, false, false]) := by decide +kernel

/-- A20. -/
theorem test_sra :
    (fun t : State => (t.reg 10#5, icc t)) (after 0x953A201F (regs (start 0x110000A0#32) [(8#5, 0x80000000#32)])) =
      (0xFFFFFFFF#32, [false, false, false, false]) := by decide +kernel

/-- A21. -/
theorem test_sra_zero :
    (fun t : State => (t.reg 10#5, icc t)) (after 0x953A2000 (regs (start 0x110000A0#32) [(8#5, 0x80000000#32)])) =
      (0x80000000#32, [false, false, false, false]) := by decide +kernel

/-- A22. -/
theorem test_sethi :
    (fun t : State => (t.reg 8#5, icc t)) (after 0x11048D15 (regs (start 0x110000A0#32) [])) =
      (0x12345400#32, [false, false, false, false]) := by decide +kernel

/-- A24. -/
theorem test_taddcc :
    (fun t : State => (t.reg 10#5, icc t)) (after 0x95020009 (regs (start 0x11F000A0#32) [(8#5, 0x4#32), (9#5, 0x8#32)])) =
      (0xC#32, [false, false, false, false]) := by decide +kernel

/-- A25. -/
theorem test_taddcc_tag :
    (fun t : State => (t.reg 10#5, icc t)) (after 0x95020009 (regs (start 0x110000A0#32) [(8#5, 0x5#32), (9#5, 0x8#32)])) =
      (0xD#32, [false, false, true, false]) := by decide +kernel

/-- A26. -/
theorem test_tsubcc_tag :
    (fun t : State => (t.reg 10#5, icc t)) (after 0x950A0009 (regs (start 0x110000A0#32) [(8#5, 0x8#32), (9#5, 0x6#32)])) =
      (0x2#32, [false, false, true, false]) := by decide +kernel

/-- A27. -/
theorem test_taddcctv :
    (fun t : State => (t.pc, t.regIn 0#3 10#5, icc t)) (after 0x95120009 (regs (start 0x119000A0#32) [(8#5, 0x5#32), (9#5, 0x8#32)])) =
      (0x40A0#32, 0#32, [true, false, false, true]) := by decide +kernel

/-- A28. -/
theorem test_tsubcctv :
    (fun t : State => (t.reg 10#5, icc t)) (after 0x951A0009 (regs (start 0x110000A0#32) [(8#5, 0x8#32), (9#5, 0x4#32)])) =
      (0x4#32, [false, false, false, false]) := by decide +kernel

/-- A29. -/
theorem test_mulscc :
    (fun t : State => (t.reg 12#5, t.y, icc t)) (after 0x99230009 { regs (start 0x110000A0#32) [(12#5, 3#32), (9#5, 5#32)] with y := 1#32 }) =
      (0x6#32, 0x80000000#32, [false, false, false, false]) := by decide +kernel

/-- A30. -/
theorem test_mulscc_sign :
    (fun t : State => (t.reg 12#5, t.y, icc t)) (after 0x99230009 { regs (start 0x118000A0#32) [(12#5, 3#32), (9#5, 5#32)] with y := 2#32 }) =
      (0x80000001#32, 0x80000001#32, [true, false, false, false]) := by decide +kernel

/-! ## Control transfer (vectors 2.6) -/

/-- C2. -/
theorem test_ba_annul :
    (fun t : State => (t.pc, t.npc, t.annul)) (after 0x30800007 (start 0x110000A0#32)) =
      (0x104#32, 0x11C#32, true) := by decide +kernel

/-- C3. -/
theorem test_bne_taken :
    (fun t : State => (t.pc, t.npc, t.annul)) (after 0x12BFFFFE (start 0x110000A0#32)) =
      (0x104#32, 0xF8#32, false) := by decide +kernel

/-- C6. -/
theorem test_bne_annul_untaken :
    (fun t : State => (t.pc, t.npc, t.annul)) (after 0x32BFFFFE (start 0x114000A0#32)) =
      (0x104#32, 0x108#32, true) := by decide +kernel

/-- C7. -/
theorem test_bn_annul :
    (fun t : State => (t.pc, t.npc, t.annul)) (after 0x20800000 (start 0x110000A0#32)) =
      (0x104#32, 0x108#32, true) := by decide +kernel

/-- C9. -/
theorem test_bl :
    (fun t : State => (t.pc, t.npc)) (after 0x06800040 (start 0x112000A0#32)) =
      (0x104#32, 0x200#32) := by decide +kernel

/-- C10. -/
theorem test_bge :
    (fun t : State => (t.pc, t.npc)) (after 0x16800040 (start 0x112000A0#32)) =
      (0x104#32, 0x108#32) := by decide +kernel

/-- C11. -/
theorem test_bgu :
    (fun t : State => (t.pc, t.npc)) (after 0x18800040 (start 0x119000A0#32)) =
      (0x104#32, 0x108#32) := by decide +kernel

/-- C12. -/
theorem test_bleu :
    (fun t : State => (t.pc, t.npc)) (after 0x08800040 (start 0x119000A0#32)) =
      (0x104#32, 0x200#32) := by decide +kernel

/-- C2, the next step: the word at 0x104 is not executed. -/
theorem test_skip :
    (fun t : State => (t.pc, t.npc, t.annul)) (stepped (after 0x30800007 (start 0x110000A0#32))) =
      (0x11C#32, 0x120#32, false) := by decide +kernel

/-- FBL -2 (2.5), FCC = 1. -/
theorem test_fbl :
    (after 0x09BFFFFE { start 0x110010A0#32 with fpu := { CoUnit.reset with cc := 1#2 } }).npc = 0xF8#32 := by decide +kernel

/-- FBE,a +4 (2.5), FCC = 0. -/
theorem test_fbe_annul_taken :
    (fun t : State => (t.npc, t.annul)) (after 0x33800004 (start 0x110010A0#32)) = (0x110#32, false) := by decide +kernel

/-- CB123 +4 (2.5), CCC = 2, a coprocessor present. -/
theorem test_cb123 :
    (after 0x03C00004 (withCp (start 0x110020A0#32) 2#2)).npc = 0x110#32 := by decide +kernel

/-- C15. -/
theorem test_call :
    (fun t : State => (t.reg 15#5, t.pc, t.npc)) (after 0x7FFFFFFF (start 0x110000A0#32)) = (0x100#32, 0x104#32, 0xFC#32) := by decide +kernel

/-- C19: the target is read before the link is written. -/
theorem test_jmpl :
    (fun t : State => (t.reg 1#5, t.pc, t.npc)) (after 0x83C04000 (regs (start 0x110000A0#32) [(1#5, 0x3000#32)])) =
      (0x100#32, 0x104#32, 0x3000#32) := by decide +kernel

/-- C20. -/
theorem test_jmpl_misaligned :
    (fun t : State => (t.pc, t.regIn 0#3 15#5)) (after 0x9FC06002 (regs (start 0x110000A0#32) [(1#5, 0x3000#32)])) = (0x4070#32, 0#32) := by decide +kernel

/-- C21. -/
theorem test_save :
    (fun t : State => (t.psr.cwp, t.reg 14#5, t.regIn 3#3 14#5)) (after 0x9DE3BFA0
      { regs (start 0x110000A3#32) [(14#5, 0x8000#32)] with wim := 2#8 }) = (2#3, 0x7FA0#32, 0x8000#32) := by decide +kernel

/-- C22. -/
theorem test_save_overflow :
    (fun t : State => (t.pc, t.psr.cwp, t.regIn 1#3 17#5, t.regIn 1#3 18#5)) (after 0x9DE3BFA0
      { start 0x110000A2#32 with wim := 2#8 }) = (0x4050#32, 1#3, 0x100#32, 0x104#32) := by decide +kernel

/-- C26. -/
theorem test_restore :
    (fun t : State => (t.psr.cwp, t.reg 8#5)) (after 0x91EA2001
      { regs (start 0x110000A2#32) [(8#5, 5#32)] with wim := 2#8 }) = (3#3, 6#32) := by decide +kernel

/-- C24. -/
theorem test_restore_underflow :
    (fun t : State => (t.pc, t.psr.cwp)) (after 0x81E80000 { start 0x110000A7#32 with wim := 1#8 }) =
      (0x4060#32, 6#3) := by decide +kernel

/-- C27. -/
theorem test_ta :
    (fun t : State => (t.tbr.word, pcs t, t.psr.word, t.regIn 4#3 17#5)) (after 0x91D02003 (start 0x11000025#32)) =
      (0x4830#32, (0x4830#32, 0x4834#32), 0x11000084#32, 0x100#32) := by decide +kernel

/-- C28. -/
theorem test_te :
    (after 0x83D060FF (regs (start 0x114000A0#32) [(1#5, 0x81#32)])).tbr.tt = 0x80#8 := by decide +kernel

/-- C30. -/
theorem test_tne_untaken :
    pcs (after 0x93D02001 (start 0x114000A0#32)) = (0x104#32, 0x108#32) := by decide +kernel

/-- C33. -/
theorem test_rett :
    (fun t : State => (pcs t, t.psr.word)) (after 0x81CC8000
      { regs (start 0x11000084#32) [(18#5, 0x404#32)] with pc := 0x4834#32, npc := 0x400#32 }) =
      ((0x400#32, 0x404#32), 0x11000025#32) := by decide +kernel

/-- C35. -/
theorem test_rett_underflow :
    (fun t : State => (t.mode, t.tbr.tt, t.psr.cwp, t.regIn 3#3 17#5)) (after 0x81CC8000
      { start 0x11000084#32 with wim := 0x20#8, pc := 0x4834#32, npc := 0x400#32 }) = (.error, 6#8, 3#3, 0x4834#32) := by decide +kernel

/-! ## Control registers (vectors 2.7) -/

/-- R1. -/
theorem test_rdpsr :
    (after 0xA1480000 (start 0x114010C3#32)).reg 16#5 = 0x114010C3#32 := by decide +kernel

/-- R2. -/
theorem test_rdpsr_user :
    (after 0xA1480000 (start 0x11000020#32)).pc = 0x4030#32 := by decide +kernel

/-- R3. -/
theorem test_rdy :
    (after 0x91400000 { start 0x11000020#32 with y := 0xDEADBEEF#32 }).reg 8#5 = 0xDEADBEEF#32 := by decide +kernel

/-- R4. -/
theorem test_rdwim :
    (after 0x91500000 { start 0x110000A0#32 with wim := 2#8 }).reg 8#5 = 2#32 := by decide +kernel

/-- R5. -/
theorem test_rdtbr :
    (after 0x91580000 { start 0x110000A0#32 with tbr := { tba := 0x40000#20, tt := 0x83#8 } }).reg 8#5 = 0x40000830#32 := by decide +kernel

/-- R7. -/
theorem test_wry :
    (after 0x81820009 (regs (start 0x110000A0#32) [(8#5, 0xFF00FF00#32), (9#5, 0xFF00FF0#32)])).y = 0xF0F0F0F0#32 := by decide +kernel

/-- R9. -/
theorem test_wrpsr :
    (after 0x81880010 (regs (start 0x114010C3#32) [(16#5, 0xFFFFFFE7#32)])).psr.word = 0x11F03FE7#32 := by decide +kernel

/-- R10. -/
theorem test_wrpsr_bad_cwp :
    (after 0x81882008 (start 0x11000020#32)).tbr.tt = 2#8 := by decide +kernel

/-- R12. -/
theorem test_wrwim :
    (after 0x81903FFF (start 0x110000A0#32)).wimWord = 0xFF#32 := by decide +kernel

/-- R14. -/
theorem test_wrtbr :
    (after 0x81980001 { regs (start 0x110000A0#32) [(1#5, 0x12345678#32)] with tbr := { tba := 0#20, tt := 0x83#8 } }).tbr.word =
      0x12345830#32 := by decide +kernel

/-! ## FPops, CPops and the rest (vectors 2.8, 2.9) -/

/-- O2. -/
theorem test_fadds_disabled :
    (after 0x85A00821 (start 0x110000A0#32)).tbr.tt = 4#8 := by decide +kernel

/-- O3: acknowledged, the FPU then executes queue stores only. -/
theorem test_fadds_pending :
    (fun t : State => (t.tbr.tt, t.fpu.excPending, t.fpu.excMode)) (after 0x85A00821 (fp8 0x110010A0#32
      { CoUnit.reset with excPending := true, queue := [{ addr := 0#32, instr := 0#32 }] })) = (8#8, false, true) := by decide +kernel

/-- R495: f3 <- f1, rs1 ignored. -/
theorem test_fmovs :
    (after 0x87A7C021 (fp8 0x110010A0#32 (CoUnit.reset.setReg 1#5 0xC0490FDB#32))).fpu.reg 3#5 = 0xC0490FDB#32 := by decide +kernel

/-- O10: no trap now, exception pending, the queue names the instruction. -/
theorem test_fpop1_reserved :
    (fun t : State => (t.pc, t.fpu.excPending, t.fpu.queue)) (after 0x81A00000 (fp8 0x110010A0#32 CoUnit.reset)) =
      (0x104#32, true, [{ addr := 0x100#32, instr := 0x81A00000#32 }]) := by decide +kernel

/-- O11. -/
theorem test_cpop1_absent :
    (after 0x87B04022 (start 0x110000A0#32)).tbr.tt = 0x24#8 := by decide +kernel

/-- X1. -/
theorem test_unimp :
    (after 0x00000000 (start 0x110000A0#32)).pc = 0x4020#32 := by decide +kernel

/-- X5. -/
theorem test_reserved_op2 :
    (after 0x01400000 (start 0x110000A0#32)).pc = 0x4020#32 := by decide +kernel

/-- UMUL of a later SPARC version is reserved here (R165). -/
theorem test_reserved_op3 :
    (after 0x94520009 (start 0x110000A0#32)).pc = 0x4020#32 := by decide +kernel

/-- X7. -/
theorem test_iflush :
    pcs (after 0x81DA2003 (start 0x110000A0#32)) = (0x104#32, 0x108#32) := by decide +kernel

/-- X8. -/
theorem test_iflush_traps :
    (after 0x81DA2004 { start 0x110000A0#32 with pins := { Pins.reset with iflushTraps := true } }).tbr.tt = 2#8 := by decide +kernel

/-! ## Floating-point patterns (IEEE 754 values) -/

theorem test_fp_single_to_double :
    unaryPattern .single .double some 0#128 0xC0490FDB#128 = some 0xC00921FB60000000#128 := by decide +kernel

theorem test_fp_double_to_integer_truncates :
    unaryPattern .double .int some 0#128 0xBFF8000000000000#128 = some 0xFFFFFFFF#128 := by decide +kernel

theorem test_fp_add_extended :
    binaryPattern .extended FpVal.add 0#128 0x3FFF0000800000000000000000000000#128
      0x3FFF0000800000000000000000000000#128 = some 0x40000000800000000000000000000000#128 := by decide +kernel

theorem test_fp_divide_exact :
    binaryPattern .double FpVal.div 0#128 0x3FF0000000000000#128 0x4020000000000000#128 =
      some 0x3FC0000000000000#128 := by decide +kernel

theorem test_fp_divide_inexact_is_open :
    binaryPattern .single FpVal.div 0#128 0x3F800000#128 0x40400000#128 = none := by decide +kernel

theorem test_fp_square_root : unaryPattern .single .single FpVal.sqrt 0#128 0x41100000#128 = some 0x40400000#128 := by
  decide +kernel

theorem test_fp_subnormal : unaryPattern .double .single some 0#128 0x36A0000000000000#128 = some 1#128 := by
  decide +kernel

theorem test_fp_compare :
    [comparePatterns .single 0x80000000#128 0#128, comparePatterns .single 0xBF800000#128 0x3F800000#128,
     comparePatterns .double 0x7FF0000000000000#128 0#128, comparePatterns .single 0x7FC00000#128 0#128] =
    [some 0#2, some 1#2, some 2#2, some 3#2] := by decide +kernel

/-! ## Traps, interrupts, reset, program flow control (vectors 2.10, 2.11) -/

/-- T3. -/
theorem test_interrupt_masked :
    (stepped { (start 0x110005A0#32).withFetchWord 32 0x01000000 with irl := 5#4 }).pc = 0x104#32 := by decide +kernel

/-- T4. -/
theorem test_interrupt_taken :
    (fun t : State => (pcs t, t.psr.word, t.regIn 2#3 17#5, t.intack)) (stepped
      { start 0x110004A3#32 with irl := 5#4, pc := 0x1010#32, npc := 0x1014#32 }) =
      ((0x4150#32, 0x4154#32), 0x110004C2#32, 0x1010#32, true) := by decide +kernel

/-- T5. -/
theorem test_interrupt_level15 :
    (stepped { start 0x11000FA0#32 with irl := 15#4 }).pc = 0x41F0#32 := by decide +kernel

/-- R612: the saved counters skip the annulled instruction. -/
theorem test_interrupt_after_annul :
    (fun t : State => (t.reg 17#5, t.reg 18#5, t.annul)) (stepped { start 0x110000A0#32 with irl := 15#4, annul := true }) =
      (0x104#32, 0x108#32, false) := by decide +kernel

/-- T7. -/
theorem test_error_mode :
    (fun t : State => (t.mode, t.tbr.tt, t.psr.word, t.reg 17#5)) (after 0x91D02000
      { start 0x110000C2#32 with pc := 0x4830#32, npc := 0x4834#32 }) = (.error, 0x80#8, 0x110000C1#32, 0x4830#32) := by decide +kernel

/-- T10. -/
theorem test_warm_reset :
    (fun t : State => (pcs t, t.psr.word, t.mode)) (stepped { start 0x11000025#32 with mode := .reset }) =
      ((0#32, 4#32), 0x11000085#32, .execute) := by decide +kernel

/-- W1. -/
theorem test_flow_check_passes :
    (fun t : State => (t.pc, t.pfcSum, t.pfcSkip)) (after 0x011F6229 { start 0x110000A0#32 with pins := { Pins.reset with flowEnabled := true }, pfcSum := 0x02206009#32 }) =
      (0x104#32, 0#32, false) := by decide +kernel

/-- W2. -/
theorem test_flow_check_fails :
    (fun t : State => (t.pc, t.pfcSum, t.reg 17#5)) (after 0x011F0000 { start 0x110000A0#32 with pins := { Pins.reset with flowEnabled := true }, pfcSum := 0x02206009#32 }) =
      (0x4660#32, 0#32, 0x100#32) := by decide +kernel

/-- W1, second word: the sum of the words executed. -/
theorem test_flow_counts :
    (after 0x92224008 { start 0x110000A0#32 with pins := { Pins.reset with flowEnabled := true }, pfcSum := 0x90022001#32 }).pfcSum = 0x02206009#32 := by decide +kernel

/-- W3. -/
theorem test_flow_nop :
    (fun t : State => (t.pfcSum, t.pfcSkip)) (after 0x01000000 { start 0x110000A0#32 with pins := { Pins.reset with flowEnabled := true }, pfcSum := 0x00000005#32 }) = (0#32, true) := by decide +kernel

/-- R581, R586: a load with bad data is over when its trap is taken. -/
theorem test_late_load_error :
    (fun t : State => (t.pc, t.reg 17#5, t.hwerror)) (stepped { (start 0x110000A0#32).withFetchWord 32 0xD4006004 with board := [
      { reset := false, halt := false, irl := 0#4, upsets := [.loadData], fexc := none, cexc := none, ccc := none, busWrites := [],
        mexc := none, pins := none }] }) = (0x4630#32, 0x104#32, true) := by decide +kernel

/-- R582. -/
theorem test_fipar :
    (stepped { (start 0x110010A0#32).withFetchWord 32 0x03800004 with board := [
      { reset := false, halt := false, irl := 0#4, upsets := [.fpuSignals], fexc := none, cexc := none, ccc := none, busWrites := [],
        mexc := none, pins := none }] }).pc = 0x4040#32 := by decide +kernel

/-- R541, R586: the bad first word of LDD comes before the refusal of its second. -/
theorem test_late_load_error_before_refusal :
    (fun t : State => (t.pc, t.reg 17#5, t.hwerror)) (stepped { (start 0x110000A0#32).withFetchWord 32 0xD4186000 with
      mexc := [{ lo := 4#32, hi := 4#32, asi := none, size := none, kind := some .read, atomic := none }]
      board := [{ State.reset.idleInput with upsets := [.loadData] }] }) = (0x4630#32, 0x104#32, true) := by decide +kernel

/-- R585: ADD of r[1] and r[2], never written, and once they are. -/
theorem test_never_written :
    let add (s : State) : State :=
      stepped { s.withFetchWord 32 0x86004002 with board := [{ State.reset.idleInput with upsets := [.neverWritten] }] }
    (add (start 0x110000A0#32)).pc = 0x4650#32 ∧
      (add (regs (start 0x110000A0#32) [(1#5, 3#32), (2#5, 4#32)])).reg 3#5 = 7#32 := by decide +kernel

/-- A delay of three instructions for the writes of the control registers. -/
def delayed (s : State) : State := { s with params := { Params.reset with wrDelay := 3 } }

/-- R435, R647: with a delay of three instructions a write is seen at the fourth boundary after it. -/
theorem test_late_write :
    let s := (delayed (start 0x110000A0#32)).writeControl (.y 5#32)
    s.tickLate.tickLate.tickLate.y = 0#32 ∧ s.tickLate.tickLate.tickLate.tickLate.y = 5#32 ∧ s.settleLate.y = 5#32 := by
  decide +kernel

/-- R640: condition codes set after a late WRPSR stand, and so does its PIL. -/
theorem test_late_psr_keeps_later_codes :
    let s := (delayed (start 0x110000A0#32)).writeControl (.psr (Psr.ofWord 0x11000FA0#32))
    let t := s.updatePsr fun p => { p with icc := { n := false, z := true, v := false, c := false } }
    let u := t.tickLate.tickLate.tickLate.tickLate
    (t.psr.pil, t.psr.icc.z) = (0#4, true) ∧ (u.psr.pil, u.psr.icc.z) = (15#4, true) := by decide +kernel

/-- R435: `wr %g0, 5, %y`, then `rd %y, %g1` with the write due at its boundary, and one instruction before. -/
theorem test_late_write_steps :
    let s := delayed (start 0x110000A0#32)
    let due (k : Nat) : State := { s with late := [{ left := k, write := .y 5#32 }] }
    let read (s : State) : Word := (stepped { s with mem := s.mem.writeBytes s.instrAsi s.pc (bytesOfWord 0x83400000#32) }).reg 1#5
    (after 0x81802005 s).late = [{ left := 3, write := .y 5#32 }] ∧ (after 0x81802005 s).y = 0#32 ∧
      read (due 0) = 5#32 ∧ read (due 1) = 0#32 := by decide +kernel

/-- R361 with ctiBase = 4: BA four words ahead. -/
theorem test_branch_base_four :
    (after 0x10800004 { start 0x110000A0#32 with params := { Params.reset with ctiBaseFour := true } }).npc = 0x114#32 := by
  decide +kernel

/-- R592 with pfcIncludesCheckWord: the check word counts. -/
theorem test_flow_counts_check_word :
    let s := { start 0x110000A0#32 with
      pins := { Pins.reset with flowEnabled := true }, params := { Params.reset with pfcIncludesCheckWord := true } }
    (s.latch 0x011F6229#32).pfcSum = 0x011F6229#32 ∧ (s.latch 0x01000000#32).pfcSum = 0#32 := by decide +kernel

/-- R449: FBL right after a compare that left the codes 1 (less). -/
theorem test_branch_after_compare :
    (after 0x09800004 { start 0x110010A0#32 with prev := .fpCompare, fpu := { CoUnit.reset with cc := 1#2 } }).npc = 0x110#32 := by
  decide +kernel

/-- R378: the same where the codes are left open: one free value is drawn, none otherwise. -/
theorem test_branch_after_compare_open :
    let s := { start 0x110010A0#32 with params := { Params.reset with earlyBranchOpen := true } }
    (after 0x11800004 { s with prev := .fpCompare }).free = 1 ∧ (after 0x11800004 s).free = 0 := by decide +kernel

/-- R541: SAVE takes no trap here, although what it leaves looks like one; the wrong TBR is not used. -/
theorem test_save_uses_no_tbr :
    let s := regs { start 0x11000080#32 with tbr := { tba := 4#20, tt := 0#8 }, npc := 0x4000#32 } []
    let s := (s.setRegIn 7#3 17#5 0x100#32).setRegIn 7#3 18#5 0x4000#32
    (fun t : State => (t.pc, t.mode, t.hwerror)) (stepped { s.withFetchWord 32 0x81E00000 with
      board := [{ State.reset.idleInput with upsets := [.tbr] }] }) = (0x4000#32, .execute, false) := by decide +kernel

/-- R240: STA with i = 1 is illegal, and reads no register. -/
theorem test_illegal_alternate_reads_nothing :
    (stepped { (start 0x110000A0#32).withFetchWord 32 0xC4A06000 with
      written := { y := false, wim := false, tba := true }
      board := [{ State.reset.idleInput with upsets := [.neverWritten] }] }).tbr.tt = 2#8 := by decide +kernel

/-- R485: a NaN is unordered with a pattern that has no class (j = 0, exponent 1). -/
theorem test_compare_nan_with_no_class :
    comparePatterns .extended 0x7FFF0000800000000000000100000000#128 (1#128 <<< 112) = some 3#2 ∧
      FpFormat.extended.decode (1#128 <<< 112) = none := by decide +kernel

/-- R142: the word before the store, and the store itself, as the prefetch path may have read it. -/
theorem test_memBefore :
    let s := (bytes (start 0x110000A0#32) 0x100#32 [1#8]).store 0x0B#8 0x100#32 [2#8, 3#8]
    (s.memBefore 0).read (memKey 0x0B#8 0x100#32) = 2#8 ∧ (s.memBefore 1).read (memKey 0x0B#8 0x100#32) = 1#8 ∧
      (s.memBefore 1).read (memKey 0x0B#8 0x101#32) = 0#8 := by decide +kernel

/-! ## The machine runs from reset -/

/-- Memory after reset reads 0 everywhere, and the word 0 is UNIMP with ET = 0: error mode (log 3). -/
theorem test_first_step : (fun t : State => (t.mode, t.tbr.tt)) (stepped State.reset) = (.error, 2#8) := by
  decide +kernel

/-- The witnesses of the statements' hypotheses follow in Sys2Proof/Tests/Witnesses.lean. -/
theorem test_reset_inv : State.reset.mem.wf = true := by decide

end Sys2Proof.Tests
end

