-- ==== Sys2Proof/Tests/Witnesses.lean ====
section
/-! SUPPORT. For the statements of Certificates/Slice0/Obligations.lean that have hypotheses: a state and operands that meet
them together, for each clause of a statement, at the ends of its range where it has one. Where a hypothesis is
that a row stands in a list written in the statement, the row is shown with its values. -/

namespace Sys2Proof.Tests

open Sys2Proof.Machine

set_option Elab.async false

/-! ## States -/

/-- Supervisor mode, traps enabled, FPU enabled and present. -/
def svFpu : State := start 0x110010A0#32

/-- Supervisor mode, traps enabled, a coprocessor enabled and present. -/
def svCp : State := withCp (start 0x110020A0#32) 0#2

/-- User mode, traps enabled. -/
def user : State := start 0x11000020#32

/-- The memory system refuses every access to the addresses from `lo` to `hi`. -/
def refusing (s : State) (lo hi : Word) : State :=
  { s with mexc := [{ lo := lo, hi := hi, asi := none, size := none, kind := none, atomic := none }] }

/-- A queue of one entry, and the unit in exception mode. -/
def oneQueued (x : CoUnit) : CoUnit := { x with queue := [{ addr := 0x100#32, instr := 0x81A00820#32 }], excMode := true }

/-- The board with one input. -/
def withInput (s : State) (f : BoardInput → BoardInput) : State := { s with board := [f s.idleInput] }

/-! ## The step -/

theorem witness_StepRunsDecodedInstruction :
    let s := (start 0x110000A0#32).withFetchWord 32 0x86004002
    let a := s.tickLate
    WellFormed (.add 3#5 1#5 (.reg 2#5)) = true ∧ s.mode = .execute ∧ s.board = [] ∧ a.interruptPending = false ∧
      a.annul = false ∧ a.fetchOverlaps = false ∧ a.fetchRefused = false ∧ a.readWord a.instrAsi a.pc = 0x86004002#32 ∧
      decode 0x86004002#32 = .add 3#5 1#5 (.reg 2#5) := by decide +kernel

/-- What counts in the checksum: an ADD and the words next to the NOP and the check words do, the NOP never, a check word by the
parameter. -/
theorem witness_StepRunsDecodedInstruction_counts :
    let s := start 0x110000A0#32
    let v := { s with params := { Params.reset with pfcIncludesCheckWord := true } }
    [0x86004002#32, 0x01000001#32, 0x011EFFFF#32, 0x01200000#32].all s.countsInFlow = true ∧
      [0x01000000#32, 0x011F0000#32, 0x011FFFFF#32].any s.countsInFlow = false ∧
      v.countsInFlow 0x011F0000#32 = true ∧ v.countsInFlow 0x01000000#32 = false := by decide +kernel

theorem witness_DecodeInvertsEncode :
    WellFormed (.fpop1Reserved 1#5 2#5 0x1FF#9 3#5) = true ∧ WellFormed (.fpop2Reserved 1#5 2#5 0x001#9 3#5) = true := by decide

/-- ADD of two registers with other bits 12:5. -/
theorem witness_EveryWordDecodesWellFormed :
    let w : Word := 0x86004002#32
    let w' : Word := 0x86005FE2#32
    w' ≠ w ∧ w' &&& ~~~ignoredBits w = w &&& ~~~ignoredBits w := by decide

theorem witness_StepKeepsInvariant :
    State.reset.Inv ∧ (match step State.reset with | .next _ => true | _ => false) = true :=
  ⟨⟨by decide +kernel, by decide +kernel, by decide +kernel, nofun⟩, by decide +kernel⟩

/-- ADD and Ticc, also with a write of the PSR and one of TBA that are still late. -/
theorem witness_UserModeIsConfined :
    ({ user with late := [{ left := 0, write := .psr svFpu.psr }, { left := 1, write := .tbr 0x5000#32 }] }.psr.s = false) ∧
    (user.psr.s = false ∧ user.mem.wf = true) ∧ (∃ t, exec (.add 1#5 1#5 (.imm 1#13)) user = .next t) ∧
      ∃ t, exec (.ta 0#5 (.imm 3#13)) user = .next t :=
  ⟨by decide +kernel, by decide +kernel, exec_next _ _, exec_next _ _⟩

/-- Shared: an in of window 7 and an out of window 0, at both ends; not shared: a local of windows 0 and 4. -/
theorem witness_WindowsOverlap :
    8 ≤ (8#5 : RegNum).toNat ∧ (15#5 : RegNum).toNat ≤ 15 ∧ (7#5 : RegNum).toNat < 8 ∧
      (phys 0#3 8#5 = phys 7#3 24#5 ∧ phys 0#3 15#5 = phys 7#3 31#5) ∧ phys 0#3 16#5 ≠ phys 4#3 16#5 := by decide

theorem witness_StoredWordReadsBack :
    State.reset.mem.wf = true ∧ commonAsi 0x08#8 = true ∧ commonAsi 0x0B#8 = true ∧ commonAsi 0x0C#8 = false ∧
      commonAsi 0x07#8 = false ∧ memKey 0x08#8 0#32 = memKey 0x0B#8 0#32 ∧ memKey 0x07#8 0#32 ≠ memKey 0x0C#8 0#32 := by
  decide +kernel

/-! ## Arithmetic: a row of each list, with the values it has in a state -/

theorem witness_AddSubAndOrXorResults :
    let s := regs user [(2#5, 0xFFFFFFFF#32)]
    (Instr.add 1#5 2#5 (.imm 1#13), 0b000000#6, s.reg 2#5 + s.operand2 (.imm 1#13)) ∈
      [(Instr.add 1#5 2#5 (.imm 1#13), 0b000000#6, 0#32)] := by decide +kernel

theorem witness_CarryAndComplementForms :
    let s := regs (start 0x111000A0#32) [(2#5, 0xFFFFFFFF#32)]
    (Instr.addx 1#5 2#5 (.imm 0#13),
      BitVec.ofNat 32 ((s.reg 2#5).toNat + (s.operand2 (.imm 0#13)).toNat + s.psr.icc.c.toNat)) ∈
        [(Instr.addx 1#5 2#5 (.imm 0#13), 0#32)] ∧
      (Instr.andncc 1#5 2#5 (.imm 1#13), s.reg 2#5 &&& ~~~s.operand2 (.imm 1#13)) ∈
        [(Instr.andncc 1#5 2#5 (.imm 1#13), 0xFFFFFFFE#32)] := by decide +kernel

theorem witness_AndOrXorSetCodes :
    let s := regs user [(2#5, 0x80000000#32)]
    (Instr.xorcc 1#5 2#5 (.reg 2#5), 0b010011#6, s.reg 2#5 ^^^ s.operand2 (.reg 2#5)) ∈
      [(Instr.xorcc 1#5 2#5 (.reg 2#5), 0b010011#6, 0#32)] := by decide +kernel

theorem witness_AdditionSetsCodes :
    (Instr.addxcc 1#5 2#5 (.imm 0#13), (start 0x111000A0#32).psr.icc.c) ∈ [(Instr.addxcc 1#5 2#5 (.imm 0#13), true)] := by
  decide +kernel

theorem witness_SubtractionSetsCodes :
    (Instr.subxcc 1#5 2#5 (.imm 0#13), (start 0x110000A0#32).psr.icc.c) ∈ [(Instr.subxcc 1#5 2#5 (.imm 0#13), false)] := by
  decide +kernel

theorem witness_ShiftsMultiplyAndDivide :
    let s := regs user [(2#5, 0x80000000#32), (3#5, 63#32)]
    (s.reg 3#5).toNat % 32 = 31 ∧
      (Instr.sra 1#5 2#5 (.reg 3#5), BitVec.ofInt 32 ((s.reg 2#5).toInt / 2 ^ 31)) ∈
        [(Instr.sra 1#5 2#5 (.reg 3#5), 0xFFFFFFFF#32)] := by decide +kernel

theorem witness_TaggedFormsSetCodesOrTrap :
    (signedOverflow (BitVec.toInt 4#32 + BitVec.toInt 8#32) || tagged 4#32 8#32) = false ∧
      (signedOverflow (BitVec.toInt 0x7FFFFFFC#32 + BitVec.toInt 4#32) || tagged 0x7FFFFFFC#32 4#32) = true ∧
      (signedOverflow (BitVec.toInt 4#32 - BitVec.toInt 1#32) || tagged 4#32 1#32) = true := by decide

/-- Program flow control enabled, with a checksum of signature 3. -/
def flowing : State :=
  { start 0x110000A0#32 with pins := { Pins.reset with flowEnabled := true }, pfcSum := 0x00010002#32 }

theorem witness_SethiLoadsHighBits :
    (start 0x110000A0#32).pins.flowEnabled = false ∧ flowing.pins.flowEnabled = true ∧ (1#5 : RegNum) ≠ 0#5 := by
  decide +kernel

theorem witness_FlowCheckComparesSignature :
    flowing.pins.flowEnabled = true ∧ flowing.pfcSkip = false ∧ { flowing with pfcSkip := true }.pfcSkip = true ∧
      flowing.pfcSum.extractLsb' 16 16 ^^^ flowing.pfcSum.extractLsb' 0 16 = (3#16 : BitVec 16) ∧
      (0x1F0003#22).extractLsb' 16 6 = 0b011111#6 ∧ (0x1F0003#22).extractLsb' 0 16 = 3#16 ∧
      (0x1F0004#22).extractLsb' 16 6 = 0b011111#6 ∧ (0x1F0004#22).extractLsb' 0 16 ≠ 3#16 ∧
      (0x1EFFFF#22 : BitVec 22) ≠ 0#22 ∧ (0x1EFFFF#22).extractLsb' 16 6 ≠ 0b011111#6 := by decide +kernel

/-! ## Integer loads and stores -/

/-- r[2] = 0xFFFFFFF8, the last doubleword; r[3] = 0xFFFFFFFC, the last word; r[4] = 0xFFFFFFFF, the last byte. -/
def topRegs (s : State) : State := regs s [(2#5, 0xFFFFFFF8#32), (3#5, 0xFFFFFFFC#32), (4#5, 0xFFFFFFFF#32)]

theorem witness_SingleLoadsExtend :
    let s := topRegs user
    let v := topRegs (start 0x110000A0#32)
    (Accesses s (.ldsb, .ldsba) 1#5 4#5 (.ldsb 1#5 4#5 (.reg 0#5)) s.dataAsi (s.ea 4#5 (.reg 0#5)) ∧
      misaligned .byte (s.ea 4#5 (.reg 0#5)) = false ∧
      s.refuses s.dataAsi (s.ea 4#5 (.reg 0#5)) .byte .read false = false) ∧
    (Accesses v (.ld, .lda) 1#5 3#5 (.lda 1#5 3#5 (.reg 0x0A#8 0#5)) 0x0A#8 (v.reg 3#5 + v.reg 0#5) ∧
      misaligned .word (v.reg 3#5 + v.reg 0#5) = false ∧
      v.refuses 0x0A#8 (v.reg 3#5 + v.reg 0#5) .word .read false = false) :=
  ⟨⟨.inl ⟨_, rfl, rfl, rfl⟩, by decide +kernel⟩, ⟨.inr ⟨by decide +kernel, _, rfl, rfl⟩, by decide +kernel⟩⟩

theorem witness_DoubleLoadsFillPair :
    let s := topRegs user
    let v := topRegs (start 0x110000A0#32)
    (Accesses s (.ldd, .ldda) 1#5 2#5 (.ldd 1#5 2#5 (.imm 0#13)) s.dataAsi (s.ea 2#5 (.imm 0#13)) ∧
      misaligned .double (s.ea 2#5 (.imm 0#13)) = false ∧ s.refusesPair s.dataAsi (s.ea 2#5 (.imm 0#13)) .read = false) ∧
    (Accesses v (.ldd, .ldda) 0#5 2#5 (.ldda 0#5 2#5 (.reg 0x08#8 0#5)) 0x08#8 (v.reg 2#5 + v.reg 0#5) ∧
      misaligned .double (v.reg 2#5 + v.reg 0#5) = false ∧ v.refusesPair 0x08#8 (v.reg 2#5 + v.reg 0#5) .read = false) :=
  ⟨⟨.inl ⟨_, rfl, rfl, rfl⟩, by decide +kernel⟩, ⟨.inr ⟨by decide +kernel, _, rfl, rfl⟩, by decide +kernel⟩⟩

theorem witness_SingleStoresWriteBytes :
    let s := topRegs user
    let v := topRegs (start 0x110000A0#32)
    (s.mem.wf = true ∧ Accesses s (.st, .sta) 1#5 3#5 (.st 1#5 3#5 (.imm 0#13)) s.dataAsi (s.ea 3#5 (.imm 0#13)) ∧
      misaligned .word (s.ea 3#5 (.imm 0#13)) = false ∧
      s.refuses s.dataAsi (s.ea 3#5 (.imm 0#13)) .word .write false = false) ∧
    (v.mem.wf = true ∧ Accesses v (.stb, .stba) 1#5 4#5 (.stba 1#5 4#5 (.reg 0x0B#8 0#5)) 0x0B#8 (v.reg 4#5 + v.reg 0#5) ∧
      misaligned .byte (v.reg 4#5 + v.reg 0#5) = false ∧
      v.refuses 0x0B#8 (v.reg 4#5 + v.reg 0#5) .byte .write false = false) :=
  ⟨⟨by decide +kernel, .inl ⟨_, rfl, rfl, rfl⟩, by decide +kernel⟩,
    ⟨by decide +kernel, .inr ⟨by decide +kernel, _, rfl, rfl⟩, by decide +kernel⟩⟩

theorem witness_DoubleStoresWritePair :
    let s := topRegs user
    let v := refusing (topRegs (start 0x110000A0#32)) 0xFFFFFFFC#32 0xFFFFFFFF#32
    (s.mem.wf = true ∧ Accesses s (.std, .stda) 31#5 2#5 (.std 31#5 2#5 (.imm 0#13)) s.dataAsi (s.ea 2#5 (.imm 0#13)) ∧
      misaligned .double (s.ea 2#5 (.imm 0#13)) = false ∧
      s.refuses s.dataAsi (s.ea 2#5 (.imm 0#13)) .double .write false = false ∧
      s.refuses s.dataAsi (s.ea 2#5 (.imm 0#13) + 4#32) .double .write false = false) ∧
    (v.mem.wf = true ∧ Accesses v (.std, .stda) 0#5 2#5 (.stda 0#5 2#5 (.reg 0x0A#8 0#5)) 0x0A#8 (v.reg 2#5 + v.reg 0#5) ∧
      misaligned .double (v.reg 2#5 + v.reg 0#5) = false ∧
      v.refuses 0x0A#8 (v.reg 2#5 + v.reg 0#5) .double .write false = false ∧
      v.refuses 0x0A#8 (v.reg 2#5 + v.reg 0#5 + 4#32) .double .write false = true) :=
  ⟨⟨by decide +kernel, .inl ⟨_, rfl, rfl, rfl⟩, by decide +kernel⟩,
    ⟨by decide +kernel, .inr ⟨by decide +kernel, _, rfl, rfl⟩, by decide +kernel⟩⟩

theorem witness_AtomicsExchange :
    let s := topRegs user
    let v := topRegs (start 0x110000A0#32)
    (s.mem.wf = true ∧ Accesses s (.ldstub, .ldstuba) 1#5 4#5 (.ldstub 1#5 4#5 (.imm 0#13)) s.dataAsi (s.ea 4#5 (.imm 0#13)) ∧
      misaligned .byte (s.ea 4#5 (.imm 0#13)) = false ∧
      s.refuses s.dataAsi (s.ea 4#5 (.imm 0#13)) .byte .read true = false ∧
      s.refuses s.dataAsi (s.ea 4#5 (.imm 0#13)) .byte .write true = false) ∧
    (v.mem.wf = true ∧ Accesses v (.swap, .swapa) 1#5 3#5 (.swapa 1#5 3#5 (.reg 0x09#8 0#5)) 0x09#8 (v.reg 3#5 + v.reg 0#5) ∧
      misaligned .word (v.reg 3#5 + v.reg 0#5) = false ∧
      v.refuses 0x09#8 (v.reg 3#5 + v.reg 0#5) .word .read true = false ∧
      v.refuses 0x09#8 (v.reg 3#5 + v.reg 0#5) .word .write true = false) :=
  ⟨⟨by decide +kernel, .inl ⟨_, rfl, rfl, rfl⟩, by decide +kernel⟩,
    ⟨by decide +kernel, .inr ⟨by decide +kernel, _, rfl, rfl⟩, by decide +kernel⟩⟩

/-- An odd address of a halfword; a refused byte; a refused second word of a doubleword; a space the platform lacks. -/
theorem witness_LoadStoreTrapsInOrder :
    let s := topRegs user
    let v := refusing (topRegs (start 0x110000A0#32)) 0xFFFFFFFF#32 0xFFFFFFFF#32
    let d := refusing (topRegs (start 0x110000A0#32)) 0xFFFFFFFC#32 0xFFFFFFFF#32
    s.psr.s = false ∧
    (Accesses s (.ldsh, .ldsha) 1#5 4#5 (.ldsh 1#5 4#5 (.imm 0#13)) s.dataAsi (s.ea 4#5 (.imm 0#13)) ∧
      misaligned .half (s.ea 4#5 (.imm 0#13)) = true) ∧
    (Accesses v (.stb, .stba) 1#5 4#5 (.stb 1#5 4#5 (.imm 0#13)) v.dataAsi (v.ea 4#5 (.imm 0#13)) ∧
      misaligned .byte (v.ea 4#5 (.imm 0#13)) = false ∧
      v.refuses v.dataAsi (v.ea 4#5 (.imm 0#13)) .byte .write false = true) ∧
    (misaligned .double (d.ea 2#5 (.imm 0#13)) = false ∧ d.refusesPair d.dataAsi (d.ea 2#5 (.imm 0#13)) .read = true) ∧
    (misaligned .word (v.reg 3#5) = false ∧ v.refuses 0x0C#8 (v.reg 3#5) .word .read false = true) :=
  ⟨by decide +kernel, ⟨.inl ⟨_, rfl, rfl, rfl⟩, by decide +kernel⟩, ⟨.inl ⟨_, rfl, rfl, rfl⟩, by decide +kernel⟩,
    by decide +kernel⟩

/-! ## The attached units -/

theorem witness_UnitLoadsFillRegisters :
    let s := topRegs svFpu
    let v := topRegs svCp
    (s.unitDisabled .fpu = false ∧ (s.unit .fpu).excPending = false ∧ misaligned .word (s.ea 3#5 (.imm 0#13)) = false ∧
      s.refuses s.dataAsi (s.ea 3#5 (.imm 0#13)) .word .read false = false ∧ (s.unit .fpu).excMode = false) ∧
    (v.unitDisabled .cp = false ∧ (v.unit .cp).excPending = false ∧ misaligned .double (v.ea 2#5 (.imm 0#13)) = false ∧
      (v.refuses v.dataAsi (v.ea 2#5 (.imm 0#13)) .double .read false ||
        v.refuses v.dataAsi (v.ea 2#5 (.imm 0#13) + 4#32) .double .read false) = false ∧
      (v.unit .cp).excMode = false) := by decide +kernel

/-- A pair whose second word is not refused; one whose second word is; a queue entry whose second word is. -/
theorem witness_UnitStoresWriteBytes :
    let s := topRegs svFpu
    let v := refusing (topRegs svCp) 0xFFFFFFFC#32 0xFFFFFFFF#32
    let q := refusing { topRegs svFpu with fpu := oneQueued CoUnit.reset } 0xFFFFFFFC#32 0xFFFFFFFF#32
    (s.mem.wf = true ∧ s.unitDisabled .fpu = false ∧ (s.unit .fpu).excPending = false ∧
      misaligned .double (s.ea 2#5 (.imm 0#13)) = false ∧
      s.refuses s.dataAsi (s.ea 2#5 (.imm 0#13)) .double .write false = false ∧
      s.refuses s.dataAsi (s.ea 2#5 (.imm 0#13) + 4#32) .double .write false = false ∧ (s.unit .fpu).excMode = false) ∧
    (v.mem.wf = true ∧ v.unitDisabled .cp = false ∧ (v.unit .cp).excPending = false ∧
      misaligned .double (v.ea 2#5 (.imm 0#13)) = false ∧
      v.refuses v.dataAsi (v.ea 2#5 (.imm 0#13)) .double .write false = false ∧
      v.refuses v.dataAsi (v.ea 2#5 (.imm 0#13) + 4#32) .double .write false = true ∧ (v.unit .cp).excMode = false) ∧
    (q.mem.wf = true ∧ q.psr.s = true ∧ q.unitDisabled .fpu = false ∧ (q.unit .fpu).excPending = false ∧
      misaligned .double (q.ea 2#5 (.imm 0#13)) = false ∧
      q.refuses q.dataAsi (q.ea 2#5 (.imm 0#13)) .double .write false = false ∧
      q.refuses q.dataAsi (q.ea 2#5 (.imm 0#13) + 4#32) .double .write false = true ∧
      (q.unit .fpu).queue = [{ addr := 0x100#32, instr := 0x81A00820#32 }]) := by decide +kernel

theorem witness_QueueStoresPopFront :
    let s := { topRegs svFpu with fpu := oneQueued CoUnit.reset }
    let v := topRegs svCp
    (s.mem.wf = true ∧ s.psr.s = true ∧ s.unitDisabled .fpu = false ∧ (s.unit .fpu).excPending = false ∧
      misaligned .double (s.ea 2#5 (.imm 0#13)) = false ∧
      s.refuses s.dataAsi (s.ea 2#5 (.imm 0#13)) .double .write false = false ∧
      s.refuses s.dataAsi (s.ea 2#5 (.imm 0#13) + 4#32) .double .write false = false ∧
      (s.unit .fpu).queue = [{ addr := 0x100#32, instr := 0x81A00820#32 }]) ∧
    (v.mem.wf = true ∧ v.psr.s = true ∧ v.unitDisabled .cp = false ∧ (v.unit .cp).excPending = false ∧
      misaligned .double (v.ea 2#5 (.imm 0#13)) = false ∧
      v.refuses v.dataAsi (v.ea 2#5 (.imm 0#13)) .double .write false = false ∧
      v.refuses v.dataAsi (v.ea 2#5 (.imm 0#13) + 4#32) .double .write false = false ∧ (v.unit .cp).queue = []) := by
  decide +kernel

/-- One state for each of the five traps. -/
theorem witness_UnitAccessTrapsInOrder :
    let s := topRegs svFpu
    let conds (s : State) (privileged : Bool) (size : AccessSize) (ea : Word) : List (Bool × Trap) :=
      [(privileged && !s.psr.s, .privilegedInstruction), (s.unitDisabled .fpu, .fpDisabled), (misaligned size ea, .notAligned),
       ((s.unit .fpu).excPending, .fpException), (s.refuses s.dataAsi ea size .write false, .dataAccess)]
    firstTrap (conds (topRegs user) true .double 0#32) = some .privilegedInstruction ∧
      firstTrap (conds (topRegs user) false .double 1#32) = some .fpDisabled ∧
      firstTrap (conds { s with fpu := CoUnit.reset.fail 0#32 0#32 } false .double 4#32) = some .notAligned ∧
      firstTrap (conds { refusing s 0#32 8#32 with fpu := CoUnit.reset.fail 0#32 0#32 } false .double 8#32) = some .fpException ∧
      firstTrap (conds (refusing s 0#32 8#32) false .double 8#32) = some .dataAccess := by decide +kernel

theorem witness_UnitBranchesTransfer :
    (svFpu.unitDisabled .fpu = false ∧ (svFpu.unit .fpu).excPending = false ∧ svFpu.branchTooEarly .fpu = false) ∧
      ({ svFpu with prev := .fpCompare }.branchTooEarly .fpu = true ∧ { svFpu with prev := .fpCompare }.unitDisabled .fpu = false) ∧
      (svCp.unitDisabled .cp = false ∧ (svCp.unit .cp).excPending = false ∧ svCp.prev ≠ .condBranch) ∧
      { svCp with prev := .condBranch }.prev = .condBranch ∧
      (unitConditions[4]).2.2.contains ({ svFpu with fpu := { CoUnit.reset with cc := 1#2 } }.unit .fpu).cc.toNat = true ∧
      (unitConditions[4]).2.2.contains (svFpu.unit .fpu).cc.toNat = false ∧
      { svFpu with params := { Params.reset with earlyBranchOpen := true }, prev := .fpCompare }.unitDisabled .fpu = false := by
  decide +kernel

/-! ## Control transfer -/

theorem witness_IntegerBranchesTransfer :
    (start 0x110000A0#32).prev ≠ .condBranch ∧ { start 0x110000A0#32 with prev := .condBranch }.prev = .condBranch := by
  decide +kernel

theorem witness_CallAndJmplLink :
    let s := topRegs user
    (s.reg 3#5 + s.operand2 (.imm 0#13)).toNat % 4 = 0 ∧ (s.reg 3#5 + s.operand2 (.imm 2#13)).toNat % 4 ≠ 0 ∧
      s.prev ≠ .condBranch ∧ { s with prev := .condBranch }.prev = .condBranch := by decide +kernel

/-- In order: the return; traps enabled; user mode; an invalid window; a target that is no word address. -/
theorem witness_RettReturnsOrTraps :
    let s := topRegs (start 0x11000087#32)
    let v := topRegs (start 0x11000007#32)
    let x := { s with wim := 1#8 }
    (s.psr.et = false ∧ s.psr.s = true ∧ s.wim.getLsbD ((s.psr.cwp + 1#3).toNat) = false ∧
      (s.reg 3#5 + s.operand2 (.imm 0#13)).toNat % 4 = 0 ∧ s.prev ≠ .condBranch) ∧
    user.psr.et = true ∧ (v.psr.et = false ∧ v.psr.s = false) ∧
    (x.psr.et = false ∧ x.psr.s = true ∧ x.wim.getLsbD ((x.psr.cwp + 1#3).toNat) = true) ∧
    (s.reg 3#5 + s.operand2 (.imm 1#13)).toNat % 4 ≠ 0 := by decide +kernel

theorem witness_SaveAndRestoreMoveWindow :
    let s := { start 0x110000A0#32 with wim := 0x80#8 }
    s.wim.getLsbD (s.psr.cwp - 1#3).toNat = true ∧ s.wim.getLsbD (s.psr.cwp + 1#3).toNat = false := by decide +kernel

theorem witness_TrapInstructionsTest :
    (∀ row ∈ [iccConditions[0]], row.2.2 (start 0x110000A0#32).psr.icc = false) ∧
      ∀ row ∈ [iccConditions[8]], row.2.2 (start 0x110000A0#32).psr.icc = true := by decide +kernel

/-! ## Control registers -/

theorem witness_ControlRegistersReadByLayout : svFpu.psr.s = true ∧ user.psr.s = false := by decide +kernel

/-- Both modes; no delay and the longest one; nothing late, one write due, one that waits. -/
theorem witness_ControlRegistersWrite :
    (svFpu.psr.s = true ∧ user.psr.s = false) ∧ (svFpu.params.wrDelay = 0 ∧ (delayed svFpu).params.wrDelay = 3) ∧
      svFpu.late = [] ∧
      { delayed svFpu with late := [{ left := 0, write := .wim 1#32 }] }.late = [{ left := 0, write := .wim 1#32 }] ∧
      ((delayed svFpu).writeControl (.tbr 0x5000#32)).late = [{ left := 3, write := .tbr 0x5000#32 }] := by decide +kernel

/-- CWP 7, the last window, and 8, the first number that is none; no delay, and one. -/
theorem witness_WritePsrSetsFields :
    ((user.reg 0#5 ^^^ user.operand2 (.imm 7#13)).toNat % 32 < 8 ∧ user.psr.s = false ∧ svFpu.psr.s = true) ∧
      (svFpu.reg 0#5 ^^^ svFpu.operand2 (.imm 7#13)).toNat % 32 < 8 ∧ svFpu.params.wrDelay = 0 ∧
      ((delayed svFpu).psr.s = true ∧ (delayed svFpu).params.wrDelay ≠ 0) ∧
      8 ≤ (user.reg 0#5 ^^^ user.operand2 (.imm 8#13)).toNat % 32 := by decide +kernel

/-! ## Floating-point-operate and coprocessor-operate instructions -/

theorem witness_FpopsLeaveIntegerUnit : svFpu.unitDisabled .fpu = false ∧ svFpu.fpu.excPending = false := by decide +kernel

theorem witness_FpMovesCopyBits :
    svFpu.unitDisabled .fpu = false ∧ svFpu.fpu.excPending = false ∧ svFpu.fpu.excMode = false := by decide +kernel

/-- FsTOd of 1.0: its operand and destination fit, and its pattern is determined. -/
theorem witness_FpUnariesDeliverResult :
    (svFpu.unitDisabled .fpu = false ∧ svFpu.fpu.excPending = false ∧ svFpu.fpu.excMode = false) ∧
      FpFormat.single.fits 31#5 = true ∧ FpFormat.double.fits 30#5 = true ∧ FpFormat.extended.fits 28#5 = true ∧
      FpFormat.single.decode 0x3F800000#128 = some (.num false 0x800000 (-23)) ∧
      FpFormat.double.encode 0#128 (.num false 0x800000 (-23)) = some 0x3FF0000000000000#128 ∧
      unaryPattern .single .double some 0#128 0x3F800000#128 = some 0x3FF0000000000000#128 := by decide +kernel

/-- FADDs of 1.0 and 2.0. -/
theorem witness_FpBinariesDeliverResult :
    (svFpu.unitDisabled .fpu = false ∧ svFpu.fpu.excPending = false ∧ svFpu.fpu.excMode = false) ∧
      FpFormat.single.fits 1#5 = true ∧ FpFormat.double.fits 2#5 = true ∧ FpFormat.extended.fits 4#5 = true ∧
      (FpFormat.single.decode 0x3F800000#128 = some (.num false 0x800000 (-23)) ∧
        FpFormat.single.decode 0x40000000#128 = some (.num false 0x800000 (-22)) ∧
        (FpVal.add (.num false 0x800000 (-23)) (.num false 0x800000 (-22))).bind (FpFormat.single.encode 0#128) =
          some 0x40400000#128) ∧
      binaryPattern .single FpVal.add 0#128 0x3F800000#128 0x40000000#128 = some 0x40400000#128 := by decide +kernel

/-- A quiet and a signaling NaN, the infinities, a number. -/
theorem witness_FpComparesSetCodes :
    (svFpu.unitDisabled .fpu = false ∧ svFpu.fpu.excPending = false ∧ svFpu.fpu.excMode = false) ∧
      FpFormat.single.fits 1#5 = true ∧ FpFormat.double.fits 2#5 = true ∧ FpFormat.extended.fits 4#5 = true ∧
      FpFormat.single.decode 0x7FC00000#128 = some (.nan false) ∧ FpFormat.single.decode 0x7F800001#128 = some (.nan true) ∧
      FpFormat.double.decode 0x7FF0000000000001#128 = some (.nan true) ∧
      FpFormat.extended.decode 0x7FFF0000800000000000000100000000#128 = some (.nan true) ∧
      FpFormat.single.decode 0x7F800000#128 = some (.inf false) ∧ FpFormat.single.decode 0xFF800000#128 = some (.inf true) ∧
      FpFormat.single.decode 0x3F800000#128 = some (.num false 0x800000 (-23)) := by
  decide +kernel

/-- Each operation delivers a value; a sum that is zero is none. For the clauses on what is delivered: 1 + 1 and 1 - (-1) are not
zero, 6 / 12 is 1 * 2^(-1), 12 * 12 is 144. -/
theorem witness_FpOperationsAreExact :
    FpVal.add (.num false 1 0) (.num true 3 (-1)) = some (.num true 1 (-1)) ∧
      FpVal.sub (.num false 1 0) (.num false 1 0) = none ∧ FpVal.sub (.num false 1 1) (.num false 1 0) = some (.num false 1 0) ∧
      FpVal.mul (.num false 3 0) (.num true 5 2) = some (.num true 15 2) ∧
      FpVal.div (.num false 6 0) (.num false 12 0) = some (.num false 2 (-2)) ∧
      FpVal.sqrt (.num false 9 4) = some (.num false 3 2) ∧ (FpVal.num false 1 0).rat = some 1 ∧
      (1 + 1 ≠ (0 : ℚ) ∧ 1 - (-1) ≠ (0 : ℚ) ∧ (6 : ℚ) / 12 = (1 : ℤ) * 2 ^ (-1 : ℤ) ∧ (12 : ℚ) * 12 = 144) :=
  ⟨by decide +kernel, by decide +kernel, by decide +kernel, by decide +kernel, by decide +kernel, by decide +kernel,
    by simp [FpVal.rat], by norm_num⟩

/-- Patterns of each row of Tables 2 and 3, at the ends of the exponent field: minus zero, the largest subnormal, the smallest
and the largest normalized numbers, an infinity, both NaNs; of extended patterns also two that no row covers. -/
theorem witness_FpPatternsKeepValue_tables :
    FpFormat.single.decode 0x80000000#128 = some (.num true 0 (-149)) ∧
      FpFormat.single.decode 0x007FFFFF#128 = some (.num false 0x7FFFFF (-149)) ∧
      FpFormat.single.decode 0x00800000#128 = some (.num false 0x800000 (-149)) ∧
      FpFormat.single.decode 0x7F7FFFFF#128 = some (.num false 0xFFFFFF 104) ∧
      FpFormat.double.decode 0x0010000000000000#128 = some (.num false 0x10000000000000 (-1074)) ∧
      FpFormat.double.decode 0xFFF0000000000000#128 = some (.inf true) ∧
      FpFormat.double.decode 0x7FF8000000000000#128 = some (.nan false) ∧
      FpFormat.extended.decode 0x3FFF0000800000000000000000000000#128 = some (.num false 0x8000000000000000 (-63)) ∧
      FpFormat.extended.decode 0x00000000000000000000000100000000#128 = some (.num false 1 (-16446)) ∧
      FpFormat.extended.decode 0x7FFF0000000000000000000000000000#128 = some (.inf false) ∧
      FpFormat.extended.decode 0x3FFF0000000000000000000000000000#128 = none ∧
      FpFormat.extended.decode 0x00000000800000000000000000000000#128 = none ∧
      FpFormat.int.decode 0x80000000#128 = some (.num true 0x80000000 0) := by decide +kernel

/-- The smallest subnormal of each format, minus three halves truncated, a pattern that stands for 1, the ends of the integers. -/
theorem witness_FpPatternsKeepValue :
    FpFormat.single.encode 0#128 (.num false 1 (-149)) = some 1#128 ∧
      FpFormat.double.encode 0#128 (.num false 1 (-1074)) = some 1#128 ∧
      FpFormat.extended.encode 0#128 (.num false 1 (-16446)) = some 0x100000000#128 ∧
      FpFormat.int.encode 0#128 (.num true 3 (-1)) = some 0xFFFFFFFF#128 ∧
      (FpVal.num false 1 (-149)).IsNumber false (2 ^ (-149 : Int)) ∧
      FpFormat.single.decode 0x3F800000#128 = some (.num false 0x800000 (-23)) ∧
      FpFormat.int.encode 0#128 (.num true 1 31) = some 0x80000000#128 ∧ FpFormat.int.encode 0#128 (.num false 1 31) = none :=
  ⟨by decide +kernel, by decide +kernel, by decide +kernel, by decide +kernel, ⟨⟨_, _, rfl⟩, by simp [FpVal.rat]⟩, by decide +kernel,
    by decide +kernel, by decide +kernel⟩

theorem witness_ReservedFpopsLeaveException :
    svFpu.unitDisabled .fpu = false ∧ svFpu.fpu.excPending = false ∧ svFpu.fpu.excMode = false := by decide +kernel

theorem witness_CpopsLeaveIntegerUnit : svCp.unitDisabled .cp = false ∧ svCp.cp.excPending = false := by decide +kernel

theorem witness_OperateTrapsInOrder :
    (user.unitDisabled .fpu = true ∧ user.unitDisabled .cp = true) ∧
      ({ svFpu with fpu := CoUnit.reset.fail 0#32 0#32 }.unitDisabled .fpu = false ∧
        ({ svFpu with fpu := CoUnit.reset.fail 0#32 0#32 }.unit .fpu).excPending = true) ∧
      ({ svCp with cp := CoUnit.reset.fail 0#32 0#32 }.unitDisabled .cp = false ∧
        ({ svCp with cp := CoUnit.reset.fail 0#32 0#32 }.unit .cp).excPending = true) := by decide +kernel

theorem witness_IllegalEncodingsTrap :
    user.pins.iflushTraps = false ∧ { user with pins := { Pins.reset with iflushTraps := true } }.pins.iflushTraps = true := by
  decide +kernel

/-! ## Traps, interrupts, reset -/

theorem witness_TrapEntrySavesAndVectors :
    user.psr.et = true ∧ { user with annul := true }.annul = true ∧ user.late = [] ∧
      ((delayed user).writeControl (.y 5#32)).late ≠ [] ∧ ((delayed user).writeControl (.y 5#32)).psr.et = true := by
  decide +kernel

theorem witness_TrapWithTrapsDisabledIsErrorMode : State.reset.psr.et = false := by decide

theorem witness_TrapTypesAndPriorities : (1#4 : BitVec 4) ≠ 0#4 ∧ (15#4 : BitVec 4) ≠ 0#4 := by decide

/-- Level 15 under PIL 15 that no input of the board changes; a level one above PIL that the board's input brings, with a bus
write and an exception of the FPU; a level that a late WRPSR unmasks. -/
theorem witness_InterruptTakenBetweenInstructions :
    let s := { start 0x11000FA0#32 with irl := 15#4 }
    let v := withInput (start 0x110003A0#32) fun inp =>
      { inp with irl := 4#4, busWrites := [{ asi := 0x0B#8, addr := 0x200#32, bytes := [1#8] }], fexc := some { queue := [], status := 0#32 } }
    let l := { start 0x11000FA0#32 with irl := 4#4, late := [{ left := 0, write := .psr (Psr.ofWord 0x110000A0#32) }] }
    (∀ x ∈ [s, v, l],
      x.mode = .execute ∧ x.input.reset = false ∧ x.input.halt = false ∧ x.breaksPins x.input = false ∧ x.input.upsets = [] ∧
        (x.accept x.input).tickLate.psr.et = true) ∧
      (s.input.irl = 15#4 ∧ s.board = []) ∧ (v.accept v.input).tickLate.psr.pil.toNat < v.input.irl.toNat ∧
      (l.accept l.input).tickLate.psr.pil.toNat < l.input.irl.toNat := by decide +kernel

theorem witness_AnnulledSlotAndRefusedFetch :
    let s := { start 0x110000A0#32 with annul := true }
    let f := { flowing with annul := true }
    let v := refusing (start 0x110000A0#32) 0x100#32 0x100#32
    (s.mode = .execute ∧ s.board = [] ∧ s.tickLate.interruptPending = false ∧ s.annul = true ∧ s.pins.flowEnabled = false) ∧
      (f.mode = .execute ∧ f.board = [] ∧ f.tickLate.interruptPending = false ∧ f.annul = true ∧ f.pins.flowEnabled = true ∧
        f.tickLate.fetchRefused = false ∧ f.tickLate.fetchOverlaps = false) ∧
      (v.mode = .execute ∧ v.board = [] ∧ v.tickLate.interruptPending = false ∧ v.annul = false ∧ v.tickLate.fetchRefused = true) := by
  decide +kernel

/-- The state `s` with the word `w` at PC and these parity errors. -/
def upsetAt (s : State) (w : Nat) (sites : List UpsetSite) : State :=
  withInput (s.withFetchWord 32 w) fun inp => { inp with upsets := sites }

/-- What all clauses ask, with the accepted state not annulled, its fetch not refused and no interrupt to take. -/
def runsUpset (s : State) : Bool :=
  let a := (s.accept s.input).tickLate
  decide (s.mode = .execute) && !s.input.reset && !s.input.halt && !s.breaksPins s.input &&
    !s.input.upsets.contains .resetLine && !a.annul && !a.fetchRefused && !a.interruptPending

/-- For each clause of the statement a state: PSR; decode PC; TBR with an interrupt, with a refused fetch, read by RDTBR; WIM never
written and read by RDWIM; r registers never written and read by ADD; an annulled slot; Y read by RDY, the fetch PC, the fetched
word; TBR and UNIMP; load data of LD; the FPU's signals and FBA; a load's data with 601MODE low, a register ADD does not use. -/
theorem witness_ParityErrorsTrapByClass :
    let s := start 0x110000A0#32
    let add : Nat := 0x86004002
    let irq : State := withInput { s with irl := 15#4 } fun inp => { inp with upsets := [.tbr] }
    let refused : State := withInput (refusing s 0x100#32 0x100#32) fun inp => { inp with upsets := [.tbr] }
    let slot : State := withInput { s with annul := true } fun inp => { inp with upsets := [.registerFile] }
    let low : State := upsetAt { s with pins := { Pins.reset with busParityEnabled := false } } 0xC2002000 [.loadData]
    let ld : State := upsetAt s 0xC2002000 [.loadData]
    let accepted (s : State) : State := (s.accept s.input).tickLate
    (∀ x ∈ [upsetAt s add [.psr], upsetAt s add [.decodePc], upsetAt s 0x83580000 [.tbr], upsetAt s 0x83500000 [.neverWritten],
        upsetAt s add [.neverWritten], upsetAt s 0x83400000 [.y], upsetAt s add [.fetchPc], upsetAt s add [.fetchData],
        upsetAt s 0 [.tbr], upsetAt (start 0x110010A0#32) 0x11800010 [.fpuSignals], upsetAt s add [.y], ld, low],
      runsUpset x = true) ∧
    ((accepted irq).interruptPending = true ∧ wrongParity irq.input .tbr (accepted irq).written.tba = true) ∧
    ((accepted refused).fetchRefused = true ∧ wrongParity refused.input .tbr (accepted refused).written.tba = true) ∧
    ((accepted slot).annul = true ∧ (accepted slot).interruptPending = false ∧ slot.input.upsets = [.registerFile]) ∧
    (decode 0x83580000#32 = .rdtbr 1#5 ∧ decode 0x83500000#32 = .rdwim 1#5 ∧ decode 0x83400000#32 = .rdy 1#5 ∧
      decode 0#32 = .unimp 0#22 ∧ decode 0x11800010#32 = .fba false 0x10#22 ∧ decode 0xC2002000#32 = .ld 1#5 0#5 (.imm 0#13)) ∧
    ((accepted (upsetAt s add [.neverWritten])).fetchedWord = 0x86004002#32 ∧
      wrongParity (upsetAt s add [.neverWritten]).input .registerFile
        ((accepted (upsetAt s add [.neverWritten])).physWritten (phys 0#3 1#5)) = true) ∧
    ((accepted (upsetAt s add [.fetchData])).pins.busParityEnabled = true ∧
      ((accepted ld).latch (accepted ld).fetchedWord).receivesData (.ld 1#5 0#5 (.imm 0#13)) = true ∧
      (accepted low).pins.busParityEnabled = false) := by decide +kernel

/-- A precise error with an interrupt pending; an interrupt with an error of what is not read; a refused fetch with and without a
fetch PC error; ADD, and a WRPSR that clears ET, take no trap, whatever TBR holds; the handler of UNIMP's trap is not at nPC. -/
theorem witness_ParityErrorsTrapByClass_calm :
    let s := start 0x110000A0#32
    let accepted (s : State) : State := (s.accept s.input).tickLate
    let fetch : State := withInput { (s.withFetchWord 32 0x86004002) with irl := 15#4 } fun inp => { inp with upsets := [.fetchPc] }
    let irq : State := withInput { (s.withFetchWord 32 0x86004002) with irl := 15#4 } fun inp => { inp with upsets := [.wim, .y] }
    let refused (sites : List UpsetSite) : State := withInput (refusing s 0x100#32 0x100#32) fun inp => { inp with upsets := sites }
    let tbr : State := upsetAt s 0x86004002 [.tbr]
    let wrpsr : State := upsetAt s 0x81882080 [.tbr]
    let unimp : State := upsetAt s 0 [.tbr]
    ((accepted fetch).interruptPending = true ∧ fetch.input.upsets = [.fetchPc]) ∧
      ((accepted irq).interruptPending = true ∧ irq.input.upsets = [.wim, .y] ∧ (accepted irq).fetchedWord = 0x86004002#32) ∧
      (∀ sites ∈ [[.fetchPc], [.y]], (accepted (refused sites)).annul = false ∧ (accepted (refused sites)).fetchRefused = true ∧
        (accepted (refused sites)).interruptPending = false ∧ (refused sites).input.upsets = sites) ∧
      (runsUpset wrpsr = true ∧ decode 0x81882080#32 = .wrpsr 0#5 (.imm 0x80#13) ∧ (accepted wrpsr).psr.s = true ∧
        ((accepted wrpsr).reg 0#5 ^^^ (accepted wrpsr).operand2 (.imm 0x80#13)).toNat % 32 < 8) ∧
      (runsUpset tbr = true ∧ wrongParity tbr.input .tbr tbr.written.tba = true ∧
        ∃ t, exec (.add 3#5 1#5 (.reg 2#5)) (accepted tbr) = .next t ∧ t.mode = .execute ∧ t.psr.et = true) ∧
      (unimp.raise .illegalInstruction).pc ≠ unimp.npc :=
  ⟨by decide +kernel, by decide +kernel, by decide +kernel, by decide +kernel,
    ⟨by decide +kernel, by decide +kernel, _, rfl, by decide +kernel, by decide +kernel⟩, by decide +kernel⟩

/-- Of those, what the clauses ask of the instruction. -/
theorem witness_ParityErrorsTrapByClass_reads :
    ReadsTbr (.rdtbr 1#5) ∧ ReadsWim (.rdwim 1#5) ∧ ReadsY (.rdy 1#5) ∧ ReadsReg (.add 3#5 1#5 (.reg 2#5)) 1#5 ∧
      (¬ReadsTbr (.unimp 0#22) ∧ ¬ReadsWim (.unimp 0#22) ∧ ¬ReadsY (.add 3#5 1#5 (.reg 2#5))) ∧
      ∀ u : State, exec (.unimp 0#22) u = .next (u.raise .illegalInstruction) :=
  ⟨⟨1#5, rfl⟩, ⟨1#5, 0#5, .imm 0#13, .inl rfl⟩, ⟨1#5, 0#5, .imm 0#13, .inl rfl⟩,
    ⟨3#5, 1#5, 0#5, .reg 2#5, .imm 0#5, 0#8, .inl ⟨by simp [operandReaders], .inl rfl⟩⟩,
    ⟨by simp [ReadsTbr], by simp [ReadsWim], by simp [ReadsY]⟩, fun _ => rfl⟩

/-- An LD, a SWAPA and an LDDF that receive data; an LD whose read is refused does not. -/
theorem witness_ParityErrorsTrapByClass_receives :
    ReceivesData (topRegs user) (.ld 1#5 3#5 (.imm 0#13)) (.single 1#5) ∧
      ReceivesData (topRegs svFpu) (.swapa 1#5 3#5 (.reg 0x0A#8 0#5)) (.single 1#5) ∧
      ReceivesData (topRegs svFpu) (.lddf 3#5 2#5 (.imm 0#13)) (.unitPair .fpu 3#5) ∧
      (refusing (topRegs user) 0#32 0xFFFFFFFF#32).receivesData (.ld 1#5 3#5 (.imm 0#13)) = false :=
  ⟨.inl ⟨1#5, 3#5, (.ld, .lda), .word, false, _, _, by simp [integerLoads], .inl ⟨_, rfl, rfl, rfl⟩, by decide +kernel⟩,
    .inl ⟨1#5, 3#5, (.swap, .swapa), .word, true, _, _, by simp [integerLoads], .inr ⟨by decide +kernel, _, rfl, rfl⟩,
      by decide +kernel⟩,
    .inr ⟨3#5, 2#5, .imm 0#13, .fpu, .double, by simp [unitLoads], by decide +kernel⟩, by decide +kernel⟩

theorem witness_ResetSetsPsrAndPc :
    let s := withInput (start 0x110000A0#32) fun inp => { inp with reset := true }
    let v := { withInput (start 0x110000A0#32) id with mode := .reset }
    (s.input.busWrites = [] ∧ s.input.reset = true) ∧
      (v.input.busWrites = [] ∧ v.late = [] ∧ v.mode = .reset ∧ v.input.reset = false ∧ v.breaksPins v.input = false) := by decide +kernel

theorem witness_HaltAndErrorModeHold :
    let s := { start 0x110000A0#32 with mode := .error }
    let v := withInput s id
    let h := withInput (start 0x110000A0#32) fun inp => { inp with halt := true }
    let r := withInput (start 0x110000A0#32) fun inp => { inp with upsets := [.resetLine] }
    (s.mode = .error ∧ s.board = []) ∧
      (v.mode = .error ∧ v.board ≠ [] ∧ v.input.reset = false ∧ v.breaksPins v.input = false ∧ v.input.busWrites = []) ∧
      (h.mode = .execute ∧ h.input.halt = true ∧ h.input.reset = false ∧ h.breaksPins h.input = false) ∧
      (r.mode = .execute ∧ r.input.halt = false ∧ r.input.reset = false ∧ r.breaksPins r.input = false ∧
        r.input.upsets.contains .resetLine = true) := by decide +kernel

/-- A write of another master; a changed pin, running and halted; a store the prefetch path may not have seen, over the word at PC,
over its last byte, and next to it; one that it has seen. -/
theorem witness_BoardActsBetweenInstructions :
    let write : BusWrite := { asi := 0x0B#8, addr := 0x200#32, bytes := [1#8, 2#8, 3#8, 4#8] }
    let s := withInput (start 0x110000A0#32) fun inp => { inp with busWrites := [write], pins := some { Pins.reset with cpPresent := true } }
    let h := withInput (start 0x110000A0#32) fun inp => { inp with halt := true, pins := some { Pins.reset with cpPresent := true } }
    let v := (start 0x110000A0#32).store 0x0B#8 0x100#32 [0x01#8, 0#8, 0#8, 0#8]
    let at' (a : Word) : State := (start 0x110000A0#32).store 0x0B#8 a [0x01#8]
    (s.board = [s.input] ∧ s.input.reset = false ∧ s.input.halt = false ∧
      s.input.pins = some { Pins.reset with cpPresent := true } ∧ { Pins.reset with cpPresent := true } ≠ s.pins) ∧
    (h.board = [h.input] ∧ h.input.halt = true ∧ h.input.pins = some { Pins.reset with cpPresent := true }) ∧
    (start 0x110000A0#32).recent = [] ∧
    (s.mem.wf = true ∧ write.bytes.length ≤ 4) ∧
    (v.mode = .execute ∧ v.board = [] ∧ v.tickLate.interruptPending = false ∧ v.annul = false ∧ v.tickLate.fetchRefused = false ∧
      v.tickLate.fetchOverlaps = true ∧ v.recent.length = 1) ∧
    ((at' 0x103#32).fetchOverlaps = true ∧ (at' 0x104#32).fetchOverlaps = false ∧ (at' 0xFF#32).fetchOverlaps = false) ∧
    (tickStores [{ left := 2, old := [] }, { left := 1, old := [] }] = [{ left := 1, old := [] }] ∧
      { v with recent := [{ left := 0, old := [(0x100, 0#8)] }] }.fetchOverlaps = false) := by decide +kernel

end Sys2Proof.Tests
end

/-! The statements on a step with nothing pending (spec 00_scope.md R21): the word at PC runs, an annulled slot is passed over, a
refused fetch traps. All start from one fact: with no input of the board left the boundary is that of execute mode, in the state
`s.tickLate.outputsOff`. -/

namespace Sys2Proof.Machine

/-! ## The state a quiet boundary finds -/

/-- The outputs of the step before have gone (log 39). -/
def State.outputsOff (s : State) : State := { s with intack := false, hwerror := false }

@[simp] theorem State.outputsOff_interruptPending (s : State) : s.outputsOff.interruptPending = s.interruptPending := rfl
@[simp] theorem State.outputsOff_fetchedWord (s : State) : s.outputsOff.fetchedWord = s.fetchedWord := rfl

theorem State.boundary_idle (s : State) (hm : s.mode = .execute) (hb : s.board = []) :
    s.boundary = s.tickLate.outputsOff.executeBoundary s.input := by
  have hin : s.input = s.idleInput := by simp [State.input, hb]
  rw [s.boundary_execute hm (by rw [hin]; rfl) (by rw [hin]; rfl) (s.breaksPins_idle hb) (by rw [hin]; rfl),
    s.accept_tick_idle hm hb]
  rfl

/-! ## The word fetched -/

/-- A fetch that meets no recent store delivers the word that memory holds now (R24; 20_memory.md R142). -/
theorem State.fetchedWord_of_not_overlaps {s : State} (h : s.fetchOverlaps = false) :
    s.fetchedWord = s.readWord s.instrAsi s.pc := by
  simp [State.fetchedWord, h]

/-- Such a fetch draws no free value. -/
theorem State.latch_of_not_overlaps {s : State} (w : Word) (h : s.fetchOverlaps = false) :
    s.latch w =
      { s with
        ir := w
        pfcSum := if s.pins.flowEnabled && s.countsInFlow w then s.pfcSum ^^^ w else s.pfcSum
        recent := tickStores s.recent } := by
  simp [State.latch, State.afterFetch, h]

theorem highHalf_toNat (w : Word) : (w &&& 0xFFFF0000#32).toNat = w.toNat / 2 ^ 16 * 2 ^ 16 := by
  have hmask : (0xFFFF0000#32 : Word) = BitVec.allOnes 32 <<< 16 := by decide
  have hlt : w.toNat / 2 ^ 16 * 2 ^ 16 < 2 ^ 32 := by omega
  rw [hmask, ← BitVec.shiftLeft_ushiftRight, BitVec.toNat_shiftLeft, BitVec.toNat_ushiftRight,
    Nat.shiftLeft_eq, Nat.shiftRight_eq_div_pow, Nat.mod_eq_of_lt hlt]

/-- A check word is one whose high half is 0x011F (60_exceptions.md R592). -/
theorem highHalf_eq_checkWord_iff (w : Word) :
    (w &&& 0xFFFF0000#32) = 0x011F0000#32 ↔ w.toNat / 2 ^ 16 = 0x011F := by
  have hval : (0x011F0000#32 : Word).toNat = 0x011F * 2 ^ 16 := by decide
  rw [← BitVec.toNat_inj, highHalf_toNat, hval]
  omega

theorem State.countsInFlow_iff (s : State) (w : Word) :
    s.countsInFlow w = true ↔
      w ≠ 0x01000000#32 ∧ (s.params.pfcIncludesCheckWord = true ∨ w.toNat / 2 ^ 16 ≠ 0x011F) := by
  rw [ne_eq (w.toNat / 2 ^ 16), ← highHalf_eq_checkWord_iff]
  simp [State.countsInFlow]

/-! ## Executing the word -/

/-- With no input of the board left the word has no parity error of its own: what it decodes to executes. -/
theorem State.executeWord_idle (s u : State) (w : Word) (hb : s.board = []) :
    u.executeWord s.input w = exec (decode w) u := by
  simp [State.executeWord, State.fiparError, s.upsets_idle hb]

/-- A boundary that runs a word, with no input of the board left, ends as the meaning of the word does. -/
theorem step_of_run_idle {s u : State} {w : Word} (hb : s.board = []) (h : s.boundary = .run w u) :
    step s = exec (decode w) u := by
  obtain ⟨t, ht⟩ := exec_next (decode w) u
  rw [step_of_run h ((s.executeWord_idle u w hb).trans ht), s.finish_idle u t _ hb, ht]

/-! ## Passing over a slot -/

/-- Passing over an annulled slot moves the program counters and touches nothing else but the checksum, which may
draw a free value (R23). -/
theorem State.skip_frame (s : State) :
    s.skip =
      { s with
        pc := s.npc, npc := s.npc + 4#32, annul := false, prev := .other
        pfcSum := s.skip.pfcSum, free := s.skip.free } := by
  unfold State.skip State.advance
  split
  · rfl
  · split <;> rfl

/-- With flow control off the slot leaves the checksum and the free values alone. -/
theorem State.skip_flow_off {s : State} (h : s.pins.flowEnabled = false) :
    s.skip.pfcSum = s.pfcSum ∧ s.skip.free = s.free := by
  simp [State.skip, h]

/-- With flow control on the word of the slot counts, whatever it is (60_exceptions.md R594). -/
theorem State.skip_pfcSum_of_flow {s : State} (h : s.pins.flowEnabled = true) (hr : s.fetchRefused = false) :
    s.skip.pfcSum = s.pfcSum ^^^ s.fetchedWord := by
  simp [State.skip, h, hr]

/-! ## The three ends of a quiet boundary -/

theorem step_runs {s : State} (hm : s.mode = .execute) (hb : s.board = [])
    (hi : s.tickLate.interruptPending = false) (ha : s.annul = false) (hr : s.tickLate.fetchRefused = false) :
    step s = exec (decode s.tickLate.fetchedWord) (s.tickLate.outputsOff.latch s.tickLate.fetchedWord) := by
  have hno : ∀ b, (s.tickLate.outputsOff.interruptPending && !b) = false := by simp [hi]
  refine step_of_run_idle hb ?_
  rw [s.boundary_idle hm hb]
  exact State.executeBoundary_run (State.hardwareTraps_idle s _ _ hb) (hno _) ha hr

theorem step_annulled {s : State} (hm : s.mode = .execute) (hb : s.board = [])
    (hi : s.tickLate.interruptPending = false) (ha : s.annul = true) :
    step s = .next s.tickLate.outputsOff.skip := by
  refine step_of_over ?_
  rw [s.boundary_idle hm hb]
  exact State.executeBoundary_annul (State.hardwareTraps_idle s _ _ hb) hi ha

theorem step_fetchRefused {s : State} (hm : s.mode = .execute) (hb : s.board = [])
    (hi : s.tickLate.interruptPending = false) (ha : s.annul = false) (hr : s.tickLate.fetchRefused = true) :
    step s = .next (s.tickLate.outputsOff.raise .instructionAccess) := by
  refine step_of_over ?_
  rw [s.boundary_idle hm hb]
  exact State.executeBoundary_refused (State.hardwareTraps_idle s _ _ hb) hi ha hr (State.preciseError_idle s _ _ hb)

/-- Settles O1: the quiet boundary runs the word fetched, which is the word at PC. -/
theorem stepRunsDecodedInstruction : Obligations.StepRunsDecodedInstruction := by
  intro s i w
  refine ⟨s.countsInFlow_iff w, ?_⟩
  intro _ hm hb a hirq hannul hseen hok hword hdec
  have hfetch : a.fetchedWord = w := (State.fetchedWord_of_not_overlaps hseen).trans hword
  have hlatch := State.latch_of_not_overlaps (s := a.outputsOff) w hseen
  rw [step_runs hm hb hirq hannul hok, hfetch, hdec, hlatch]
  rfl

/-- Settles O56: the quiet boundary passes over an annulled slot before it asks whether the fetch is refused, and asks that
before it decodes. -/
theorem annulledSlotAndRefusedFetch : Obligations.AnnulledSlotAndRefusedFetch := by
  intro s hm hb a hirq
  refine ⟨rfl, fun ha => ?_, fun ha hr => step_fetchRefused hm hb hirq ha hr⟩
  refine ⟨a.outputsOff.skip, step_annulled hm hb hirq ha, a.outputsOff.skip_frame, ?_, ?_⟩
  · exact fun hoff => State.skip_flow_off (s := a.outputsOff) hoff
  · intro hon hok hseen
    have hsum := State.skip_pfcSum_of_flow (s := a.outputsOff) hon hok
    rwa [a.outputsOff_fetchedWord, State.fetchedWord_of_not_overlaps hseen] at hsum

end Sys2Proof.Machine

/-! The statements on the r registers (spec 10_state.md R42 to R44) and on the reset state. Registers are told apart by their place
in storage, `phys`; a window register's place is its place in a ring of 128. -/

namespace Sys2Proof.Machine

/-! ## The windows -/

/-- Which physical register a number names in a window, by its range (10_state.md R43). -/
theorem phys_of_ne_zero_of_lt {n : RegNum} (w : Window) (h0 : n ≠ 0#5) (h8 : n.toNat < 8) :
    phys w n = .global (Fin.ofNat 7 (n.toNat - 1)) := by
  simp [phys, h0, h8]

theorem phys_of_le {n : RegNum} (w : Window) (h8 : 8 ≤ n.toNat) :
    phys w n = .window (Fin.ofNat 128 (16 * w.toNat + (n.toNat - 8))) := by
  have h0 : n ≠ 0#5 := by rintro rfl; simp at h8
  simp [phys, h0, Nat.not_lt.2 h8]

/-- The globals are those of every window (R42). -/
theorem phys_global {n : RegNum} (w w' : Window) (h8 : n.toNat < 8) : phys w n = phys w' n := by
  by_cases h0 : n = 0#5
  · rw [h0, phys_zero, phys_zero]
  · rw [phys_of_ne_zero_of_lt w h0 h8, phys_of_ne_zero_of_lt w' h0 h8]

theorem phys_global_ne_window {n m : RegNum} (w w' : Window) (hn : n.toNat < 8) (hm : 8 ≤ m.toNat) :
    phys w n ≠ phys w' m := by
  rw [phys_of_le w' hm]
  by_cases h0 : n = 0#5
  · simp [h0]
  · simp [phys_of_ne_zero_of_lt w h0 hn]

/-- Two window registers are one when they stand at the same place of the ring of 128 (R43). -/
theorem phys_window_eq_iff {n m : RegNum} (w w' : Window) (hn : 8 ≤ n.toNat) (hm : 8 ≤ m.toNat) :
    phys w n = phys w' m ↔
      (16 * w.toNat + (n.toNat - 8)) % 128 = (16 * w'.toNat + (m.toNat - 8)) % 128 := by
  rw [phys_of_le w hn, phys_of_le w' hm]
  simp [Fin.ext_iff]

/-- Register `n` of window `w` and register `m` of window `w'` are one by the overlap of windows: a global, the same register of
the same window, or outs of a window and ins of the one below (R42, R43). -/
def SharedRegister (w w' : Window) (n m : RegNum) : Prop :=
  (n = m ∧ (n.toNat < 8 ∨ w = w')) ∨ (8 ≤ n.toNat ∧ n.toNat ≤ 15 ∧ m = n + 16#5 ∧ w = w' + 1#3) ∨
    (8 ≤ m.toNat ∧ m.toNat ≤ 15 ∧ n = m + 16#5 ∧ w' = w + 1#3)

/-- The outs of a window are the ins of the one below it (`phys_overlap`), and the ring of 128 has no other coincidence. -/
theorem phys_eq_iff_shared (w w' : Window) (n m : RegNum) : phys w n = phys w' m ↔ SharedRegister w w' n m := by
  constructor
  · intro h
    rcases Nat.lt_or_ge n.toNat 8 with hn | hn <;> rcases Nat.lt_or_ge m.toNat 8 with hm | hm
    · exact .inl ⟨phys_injective w n m (h.trans (phys_global w' w hm)), .inl hn⟩
    · exact absurd h (phys_global_ne_window w w' hn hm)
    · exact absurd h.symm (phys_global_ne_window w' w hm hn)
    · rw [phys_window_eq_iff w w' hn hm] at h
      simp only [SharedRegister, ← BitVec.toNat_inj, BitVec.toNat_add, BitVec.toNat_ofNat]
      omega
  · rintro (⟨rfl, hn | rfl⟩ | ⟨h8, h15, rfl, rfl⟩ | ⟨h8, h15, rfl, rfl⟩)
    · exact phys_global w w' hn
    · rfl
    · exact (phys_overlap w' n h8 h15).symm
    · exact phys_overlap w m h8 h15

/-- Settles O8: registers are one exactly when their physical registers are, and those are by `phys_eq_iff_shared`. -/
theorem windowsOverlap : Obligations.WindowsOverlap := by
  intro s w w' n m v shared
  have hphys : phys w n = phys w' m ↔ shared := phys_eq_iff_shared w w' n m
  refine ⟨hphys, fun h => ?_, fun h hm => ?_, fun h => ?_, rfl⟩
  · rw [State.regIn, State.regIn, hphys.2 h]
  · rw [State.regIn_setRegIn, if_pos ⟨(hphys.2 h).symm, hm⟩]
  · rw [State.regIn_setRegIn, if_neg fun hc => h (hphys.1 hc.1.symm)]

/-- Settles O9: different numbers name different registers of a window (`phys_injective`). -/
theorem registerWritesAreSeparate : Obligations.RegisterWritesAreSeparate := by
  intro s w n m v
  have hphys : phys w m = phys w n ↔ m = n := ⟨phys_injective w m n, congrArg (phys w)⟩
  obtain ⟨-, hwritten⟩ := writesReg_setRegIn s w n v
  refine ⟨?_, ?_, hwritten, rfl⟩
  · by_cases h0 : m = 0#5
    · simp [h0]
    · simp [State.regIn_setRegIn, hphys, h0]
  · rw [hwritten (phys w m)]
    simp [hphys]

/-- Settles O5: the reset state's counters are 0 and 4, its memory is empty and INTACK is off. -/
theorem resetSatisfiesInvariant : Obligations.ResetSatisfiesInvariant :=
  { pcAligned := rfl, npcAligned := rfl, memCanonical := rfl, interruptTaken := fun h => absurd h Bool.false_ne_true }

end Sys2Proof.Machine

/-! The statement on what the board does between two instructions (spec 00_scope.md R10): each part of an input is applied before
anything else, so that the step is that of the state with the part applied and taken out of the input. -/

namespace Sys2Proof.Machine

/-! ## Memory before a store -/

/-- A memory in canonical form is its bytes: the first cell of either lists a byte that is not the unlisted one, so the other
lists it too, and neither can begin at a lower key. -/
theorem Memory.ext_of_read {m n : Memory} (hm : m.wf = true) (hn : n.wf = true) (h : ∀ k, m.read k = n.read k) : m = n := by
  induction m generalizing n with
  | nil =>
    cases n with
    | nil => rfl
    | cons d n =>
      obtain ⟨hd, -, -⟩ := (Memory.wf_cons d n).1 hn
      exact absurd (h d.1).symm (by simpa [Memory.read] using hd)
  | cons c m ih =>
    obtain ⟨hc, hcm, hm⟩ := (Memory.wf_cons c m).1 hm
    cases n with
    | nil => exact absurd (h c.1) (by simpa [Memory.read] using hc)
    | cons d n =>
      obtain ⟨hd, hdn, hn⟩ := (Memory.wf_cons d n).1 hn
      have hkey : c.1 = d.1 := by
        rcases Nat.lt_trichotomy c.1 d.1 with hlt | heq | hlt
        · have hread := Memory.read_of_lt_all (d :: n) c.1 (by grind)
          rw [← h, Memory.read, if_pos rfl] at hread
          exact absurd hread hc
        · exact heq
        · have hread := Memory.read_of_lt_all (c :: m) d.1 (by grind)
          rw [h, Memory.read, if_pos rfl] at hread
          exact absurd hread hd
      have hbyte : c.2 = d.2 := by simpa [Memory.read, hkey] using h c.1
      have hrest : m = n := ih hm hn fun k => by
        by_cases hk : c.1 = k
        · rw [Memory.read_of_lt_all m k (hk ▸ hcm), Memory.read_of_lt_all n k (hk ▸ hkey ▸ hdn)]
        · simpa [Memory.read, ← hkey, hk] using h k
      rw [Prod.ext hkey hbyte, hrest]

/-- Cells put back that all hold what `m` held: at their keys the memory reads as `m` again, elsewhere as before. -/
theorem Memory.read_restore {m : Memory} (old : List Host.Cell) (hold : ∀ c ∈ old, c.2 = m.read c.1) (m' : Memory)
    (hm' : m'.wf = true) (k : Nat) :
    (m'.restore old).read k = if k ∈ old.map Prod.fst then m.read k else m'.read k := by
  induction old generalizing m' with
  | nil => rfl
  | cons c old ih =>
    obtain ⟨hc, hold⟩ := List.forall_mem_cons.1 hold
    have hwrite := ih hold (m'.write c.1 c.2) (Memory.wf_write _ _ _ hm')
    rw [Memory.restore, List.foldl_cons]
    rw [Memory.restore, Memory.read_write _ _ _ _ hm', hc] at hwrite
    rw [hc, hwrite]
    by_cases hk : k = c.1
    · simp [hk]
    · simp [hk]

/-- Putting back the bytes a store replaced undoes it. -/
theorem Memory.restore_writeBytes (m : Memory) (asi : Asi) (a : Word) (bs : List Byte) (hm : m.wf = true) :
    (m.writeBytes asi a bs).restore (m.cellsAt asi a bs) = m := by
  have hw := Memory.wf_writeBytes m asi a bs hm
  have hcells : ∀ c ∈ m.cellsAt asi a bs, c.2 = m.read c.1 := by
    rw [Memory.cellsAt_eq]
    simp
  refine Memory.ext_of_read (Memory.wf_restore _ _ hw) hm fun k => ?_
  rw [Memory.read_restore _ hcells _ hw]
  split
  · rfl
  · rename_i hk
    refine Memory.read_writeBytes_outside m asi a bs k hm fun j hj heq => hk ?_
    rw [Memory.cellsAt_eq]
    simp only [List.map_map, List.mem_map, List.mem_range]
    exact ⟨j, hj, heq.symm⟩

/-- Memory before the newest stores, one of them just made, is memory before the others. -/
theorem State.memBefore_store (s : State) (asi : Asi) (a : Word) (bs : List Byte) (n : Nat) (hm : s.mem.wf = true) :
    (s.store asi a bs).memBefore (n + 1) = s.memBefore n := by
  simp only [State.memBefore, State.store, List.take_succ_cons, List.foldl_cons, Memory.restore_writeBytes _ _ _ _ hm]

/-! ## Stores the prefetch path may not have seen -/

/-- The stores still unseen after one more word are those that were for more than that word. -/
theorem tickStores_eq (recent : List RecentStore) :
    tickStores recent = (recent.filter fun r => decide (1 < r.left)).map (fun r => { r with left := r.left - 1 }) := by
  have hleft : ∀ k : Nat, 0 < k - 1 ↔ 1 < k := fun k => by omega
  simp only [tickStores, List.filter_map, Function.comp_def, hleft]

/-- A fetch meets a store when the store, still unseen, replaced one of the four bytes of the word. -/
theorem State.fetchOverlaps_iff (s : State) :
    s.fetchOverlaps = true ↔
      ∃ r ∈ s.recent, 0 < r.left ∧ ∃ c ∈ r.old, ∃ j : Nat, j < 4 ∧ c.1 = memKey s.instrAsi s.pc + j := by
  have hword : ∀ key k : Nat, (key ≤ k ∧ k < key + 4) ↔ ∃ j, j < 4 ∧ k = key + j := fun key k =>
    ⟨fun h => ⟨k - key, by omega, by omega⟩, fun ⟨j, hj, h⟩ => by omega⟩
  simp only [State.fetchOverlaps, List.any_eq_true, Bool.and_eq_true, decide_eq_true_eq, hword]

/-! ## The board's input -/

/-- How a boundary with an input of the board left ends. -/
theorem State.boundary_of_input {s : State} {inp : BoardInput} {rest : List BoardInput} (hb : s.board = inp :: rest) :
    s.boundary = if s.breaksPins inp then .pinChanged else (s.accept inp).acceptedBoundary inp := by
  simp [State.boundary, State.input, hb]

/-- Of the board's input an executed word asks the errors detected only. -/
theorem State.executeWord_congr (u : State) (w : Word) {inp inp' : BoardInput} (hu : inp.upsets = inp'.upsets) :
    u.executeWord inp w = u.executeWord inp' w := by
  unfold State.executeWord State.fiparError
  rw [hu]

theorem State.finish_congr (u v : State) (i : Instr) {inp inp' : BoardInput} (hu : inp.upsets = inp'.upsets) :
    u.finish inp i v = u.finish inp' i v := by
  unfold State.finish State.preciseError wrongParity
  rw [hu]

/-- A step depends on the board through what its boundary does, and through the errors it detects. -/
theorem step_congr {s t : State} (hboundary : s.boundary = t.boundary) (hu : s.input.upsets = t.input.upsets) :
    step s = step t := by
  simp only [step, hboundary, State.executeWord_congr _ _ hu, State.finish_congr _ _ _ hu]

/-- What bus writes and unit signals do is done before anything else of the step. -/
theorem step_signals_first {s : State} {inp : BoardInput} {rest : List BoardInput} (hb : s.board = inp :: rest) :
    step s =
      step { inp.busWrites.foldl State.busWrite s with
        fpu := s.fpu.signal inp.fexc
        cp := (s.cp.signal inp.cexc).drive inp.ccc
        mexc := inp.mexc.getD s.mexc
        board := { inp with busWrites := [], fexc := none, cexc := none, ccc := none, mexc := none } :: rest } := by
  refine step_congr ?_ (by simp [State.input, hb])
  rw [State.boundary_of_input hb, State.boundary_of_input rfl, State.busWrites_frame]
  simp only [State.accept_frame, hb]
  rfl

/-- What bus writes do to memory, and to the record of the newest stores, does not hang on the pins or the board. -/
theorem State.busWrites_congr (ws : List BusWrite) {s t : State} (hm : t.mem = s.mem) (hr : t.recent = s.recent)
    (hp : t.params = s.params) :
    (ws.foldl State.busWrite t).mem = (ws.foldl State.busWrite s).mem ∧
      (ws.foldl State.busWrite t).recent = (ws.foldl State.busWrite s).recent := by
  induction ws generalizing s t with
  | nil => exact ⟨hm, hr⟩
  | cons w ws ih => exact ih (by simp [State.busWrite, State.store, hm]) (by simp [State.busWrite, State.store, hm, hr, hp]) hp

/-- Accepting an input whose new pins are there already comes to the same. -/
theorem State.accept_pins {s : State} {inp : BoardInput} {rest : List BoardInput} {p : Pins} (hb : s.board = inp :: rest)
    (hp : inp.pins = some p) :
    State.accept { s with pins := p, board := { inp with pins := none } :: rest } { inp with pins := none } = s.accept inp := by
  obtain ⟨hmem, hrecent⟩ := State.busWrites_congr inp.busWrites (s := s)
    (t := { s with pins := p, board := { inp with pins := none } :: rest }) rfl rfl rfl
  rw [State.accept_frame, State.accept_frame]
  simp [hmem, hrecent, hb, hp]

/-- The change of static pins that RESET or HALT lets the board make is made before anything else of the step. -/
theorem step_pins_first {s : State} {inp : BoardInput} {rest : List BoardInput} {p : Pins} (hb : s.board = inp :: rest)
    (hheld : inp.reset = true ∨ inp.halt = true) (hp : inp.pins = some p) :
    step s = step { s with pins := p, board := { inp with pins := none } :: rest } := by
  have hkept : ∀ u x, x.reset = inp.reset → x.halt = inp.halt → State.breaksPins u x = false := fun u x hr hh => by
    rcases hheld with h | h <;> simp [State.breaksPins, hr, hh, h]
  refine step_congr ?_ (by simp [State.input, hb])
  rw [State.boundary_of_input hb, State.boundary_of_input rfl, State.accept_pins hb hp, hkept s inp rfl rfl]
  rw [hkept _ { inp with pins := none } rfl rfl]
  rfl

/-- A change of a static pin while neither RESET nor HALT is asserted is refused (log 40). -/
theorem step_pinChanged {s : State} {inp : BoardInput} {rest : List BoardInput} {p : Pins} (hb : s.board = inp :: rest)
    (hr : inp.reset = false) (hh : inp.halt = false) (hp : inp.pins = some p) (hne : p ≠ s.pins) :
    step s = .refused .staticPinChanged := by
  have hbreaks : s.breaksPins inp = true := by simp [State.breaksPins, hr, hh, hp, hne]
  simp [step, State.boundary_of_input hb, hbreaks]

/-! ## What the board does between two instructions -/

/-- A fetch that meets a recent store delivers the word of an earlier moment, and draws a free value. -/
theorem State.fetchedWord_of_overlaps {s : State} (h : s.fetchOverlaps = true) :
    ∃ n, n ≤ s.recent.length ∧ s.fetchedWord = { s with mem := s.memBefore n }.readWord s.instrAsi s.pc :=
  ⟨Config.unseenStores s.free % (s.recent.length + 1), Nat.le_of_lt_succ (Nat.mod_lt _ s.recent.length.succ_pos), if_pos h⟩

theorem State.latch_of_overlaps {s : State} (w : Word) (h : s.fetchOverlaps = true) :
    s.latch w =
      { s with
        ir := w
        pfcSum := if s.pins.flowEnabled && s.countsInFlow w then s.pfcSum ^^^ w else s.pfcSum
        recent := tickStores s.recent
        free := s.free + 1 } := by
  simp [State.latch, State.afterFetch, h]

/-- The condition codes are the line of the coprocessor alone: an exception it signals leaves them. -/
theorem CoUnit.drive_signal (x : CoUnit) (e : Option UnitException) (cc : Option (BitVec 2)) :
    (x.signal e).drive cc = { x.signal e with cc := cc.getD x.cc } := by
  cases e <;> cases cc <;> rfl

/-- Settles O60: the parts of the input commute with the step that follows them; a store is undone by what its record keeps; and
the quiet boundary runs the word fetched. -/
theorem boardActsBetweenInstructions : Obligations.BoardActsBetweenInstructions := by
  intro s a raised
  refine ⟨fun inp rest hb => ⟨?_, ?_, ?_⟩, fun hm => ⟨?_, rfl, ?_⟩, s.store_recent_eq, tickStores_eq s.recent,
    a.fetchOverlaps_iff, ?_⟩
  · have hraised : ∀ x e, raised x e = CoUnit.signal x e := fun x e => by cases e <;> rfl
    rw [step_signals_first hb, CoUnit.drive_signal, ← hraised, ← hraised]
  · exact fun p hheld hp => step_pins_first hb hheld hp
  · exact fun p hr hh hp hne => step_pinChanged hb hr hh hp hne
  · exact fun b hlen => ⟨storesBytes_store s b.asi b.addr b.bytes hm (by omega), rfl⟩
  · exact fun asi addr bs n => s.memBefore_store asi addr bs n hm
  · intro hmode hb hirq hannul hok hmeets
    obtain ⟨n, hn, hword⟩ := State.fetchedWord_of_overlaps hmeets
    refine ⟨n, a.fetchedWord, hn, hword, ?_⟩
    rw [step_runs hmode hb hirq hannul hok, State.latch_of_overlaps (s := a.outputsOff) _ hmeets]
    rfl

end Sys2Proof.Machine

/-! What every instruction does (spec 10_state.md R67), said once: an instruction is made of parts, each of which keeps the mode,
INTACK and canonical memory and is confined in user mode (`State.Effect`), and ends with a trap or at nPC (`State.Ends`). The
statements on user mode and on the invariant of every step follow. -/

namespace Sys2Proof.Machine

/-! ## Privileges -/

theorem samePrivileges_iff (c d : Controls) :
    SamePrivileges c d ↔
      d.psr.pil = c.psr.pil ∧ d.psr.ef = c.psr.ef ∧ d.psr.ec = c.psr.ec ∧ d.psr.s = c.psr.s ∧ d.psr.ps = c.psr.ps ∧
        d.psr.et = c.psr.et ∧ d.wim = c.wim ∧ d.tbr = c.tbr := by
  obtain ⟨⟨icc, ec, ef, pil, s, ps, et, cwp⟩, wim, tbr, y, written⟩ := d
  simp only [SamePrivileges, Psr.mk.injEq]
  tauto

theorem SamePrivileges.refl (c : Controls) : SamePrivileges c c := ⟨rfl, rfl, rfl⟩

theorem SamePrivileges.trans {c d e : Controls} (h : SamePrivileges c d) (h' : SamePrivileges d e) : SamePrivileges c e := by
  rw [samePrivileges_iff] at *
  obtain ⟨hpil, hef, hec, hs, hps, het, hwim, htbr⟩ := h
  simpa only [hpil, hef, hec, hs, hps, het, hwim, htbr] using h'

/-- The same control register written with the same value leaves the privileges the same. -/
theorem SamePrivileges.write {c d : Controls} (h : SamePrivileges c d) (w : ControlWrite) :
    SamePrivileges (c.write w) (d.write w) := by
  rw [samePrivileges_iff] at *
  obtain ⟨hpil, hef, hec, hs, hps, het, hwim, htbr⟩ := h
  cases w <;> simp [Controls.write, *]

/-- Y is no privilege. -/
theorem samePrivileges_writeY (c : Controls) (v : Word) : SamePrivileges c (c.write (.y v)) := .refl c

theorem SamePrivileges.writeAll {c d : Controls} (h : SamePrivileges c d) (ws : List LateWrite) :
    SamePrivileges (c.writeAll ws) (d.writeAll ws) := by
  induction ws generalizing c d with
  | nil => exact h
  | cons l ws ih => exact ih (h.write l.write)

/-- Late writes of Y made void take no privilege with them. -/
theorem SamePrivileges.writeAll_survivesY {c d : Controls} (h : SamePrivileges c d) (ws : List LateWrite) :
    SamePrivileges (c.writeAll ws) (d.writeAll (ws.filter LateWrite.survivesY)) := by
  induction ws generalizing c d with
  | nil => exact h
  | cons l ws ih =>
    obtain ⟨left, w⟩ := l
    cases w with
    | y v => exact ih h
    | psr p => exact ih (h.write (.psr p))
    | wim v => exact ih (h.write (.wim v))
    | tbr v => exact ih (h.write (.tbr v))

/-- A change of the PSR that leaves its privileged fields alone (icc, CWP). -/
def Unprivileged (f : Psr → Psr) : Prop :=
  ∀ c : Controls, SamePrivileges c { c with psr := f c.psr }

theorem unprivileged_icc (f : Icc) : Unprivileged fun p => { p with icc := f } := fun _ => ⟨rfl, rfl, rfl⟩

theorem unprivileged_cwp (w : Window) : Unprivileged fun p => { p with cwp := w } := fun _ => ⟨rfl, rfl, rfl⟩

/-- Such a change made in the late writes of the PSR too leaves the privileges they will give. -/
theorem SamePrivileges.writeAll_afterPsr {f : Psr → Psr} (hf : Unprivileged f) {c d : Controls} (h : SamePrivileges c d)
    (ws : List LateWrite) : SamePrivileges (c.writeAll ws) (d.writeAll (ws.map (LateWrite.afterPsr f))) := by
  induction ws generalizing c d with
  | nil => exact h
  | cons l ws ih =>
    obtain ⟨left, w⟩ := l
    cases w with
    | y v => exact ih (h.write (.y v))
    | psr p => exact ih ((h.write (.psr p)).trans (hf (d.write (.psr p))))
    | wim v => exact ih (h.write (.wim v))
    | tbr v => exact ih (h.write (.tbr v))

theorem State.settleLate_controls (s : State) : s.settleLate.controls = s.controls.writeAll s.late := rfl

/-! ## What an instruction may do -/

/-- What user mode may do from `s` to `t`: the privileges stay, now and once the late writes are seen, and so does every byte
outside the common space. -/
structure State.Confined (s t : State) : Prop where
  now : SamePrivileges s.controls t.controls
  later : SamePrivileges s.settleLate.controls t.settleLate.controls
  spaces : s.mem.wf = true → ∀ asi a, commonAsi asi = false → t.readByte asi a = s.readByte asi a

/-- What any part of an instruction does from `s` to `t`, but for the program counters: the mode and INTACK stay, memory stays
canonical, and user mode is confined. -/
structure State.Effect (s t : State) : Prop where
  mode : t.mode = s.mode
  intack : t.intack = s.intack
  memCanonical : s.mem.wf = true → t.mem.wf = true
  user : s.psr.s = false → s.Confined t

/-- A part of an instruction that leaves mode, INTACK, memory and control registers alone. -/
theorem State.Effect.of_kept {s t : State} (hmode : t.mode = s.mode) (hintack : t.intack = s.intack) (hmem : t.mem = s.mem)
    (hcontrols : t.controls = s.controls) (hlate : t.late = s.late) : s.Effect t where
  mode := hmode
  intack := hintack
  memCanonical h := hmem ▸ h
  user _ :=
    { now := hcontrols ▸ .refl _
      later := by rw [State.settleLate_controls, State.settleLate_controls, hcontrols, hlate]; exact .refl _
      spaces := fun _ asi a _ => by simp only [State.readByte, hmem] }

theorem State.Effect.refl (s : State) : s.Effect s := .of_kept rfl rfl rfl rfl rfl

theorem State.Confined.s_eq {s t : State} (h : s.Confined t) : t.psr.s = s.psr.s := by
  obtain ⟨-, -, -, hs, -⟩ := (samePrivileges_iff _ _).1 h.now
  exact hs

theorem State.Effect.trans {s t u : State} (h : s.Effect t) (h' : t.Effect u) : s.Effect u where
  mode := h'.mode.trans h.mode
  intack := h'.intack.trans h.intack
  memCanonical hm := h'.memCanonical (h.memCanonical hm)
  user hs :=
    have hst := h.user hs
    have htu := h'.user (hst.s_eq.trans hs)
    { now := hst.now.trans htu.now
      later := hst.later.trans htu.later
      spaces := fun hm asi a ha =>
        (htu.spaces (h.memCanonical hm) asi a ha).trans (hst.spaces hm asi a ha) }

theorem State.effect_setReg (s : State) (n : RegNum) (v : Word) : s.Effect (s.setReg n v) := .of_kept rfl rfl rfl rfl rfl

theorem State.effect_setUnit (s : State) (u : UnitId) (x : CoUnit) : s.Effect (s.setUnit u x) := .of_kept rfl rfl rfl rfl rfl

theorem State.effect_unsettle (s : State) (u : UnitId) : s.Effect (s.unsettle u) := .of_kept rfl rfl rfl rfl rfl

theorem State.effect_free (s : State) (k : Nat) : s.Effect { s with free := k } := .of_kept rfl rfl rfl rfl rfl

/-- The program flow control is no privilege. -/
theorem State.effect_flow (s : State) (sum : Word) (skip : Bool) (k : Nat) :
    s.Effect { s with pfcSum := sum, pfcSkip := skip, free := k } := .of_kept rfl rfl rfl rfl rfl

theorem State.effect_updatePsr (s : State) {f : Psr → Psr} (hf : Unprivileged f) : s.Effect (s.updatePsr f) where
  mode := rfl
  intack := rfl
  memCanonical h := h
  user _ := { now := hf s.controls, later := (hf s.controls).writeAll_afterPsr hf s.late, spaces := fun _ _ _ _ => rfl }

theorem State.effect_updateY (s : State) (v : Word) : s.Effect (s.updateY v) where
  mode := rfl
  intack := rfl
  memCanonical h := h
  user _ :=
    have hy : SamePrivileges s.controls (s.updateY v).controls := samePrivileges_writeY s.controls v
    { now := hy, later := hy.writeAll_survivesY s.late, spaces := fun _ _ _ _ => rfl }

/-- A write of a control register: of Y in either mode, of any in supervisor mode. -/
theorem State.effect_writeControl (s : State) (w : ControlWrite) (hw : s.psr.s = false → ∃ v, w = .y v) :
    s.Effect (s.writeControl w) where
  mode := rfl
  intack := rfl
  memCanonical h := h
  user hs := by
    obtain ⟨v, rfl⟩ := hw hs
    have hy := samePrivileges_writeY s.controls v
    rcases s.writeControl_cases (.y v) with ⟨-, h⟩ | ⟨-, h⟩ <;> rw [h]
    · exact { now := hy, later := hy.writeAll s.late, spaces := fun _ _ _ _ => rfl }
    · refine { now := .refl _, later := ?_, spaces := fun _ _ _ _ => rfl }
      rw [State.settleLate_controls, State.settleLate_controls, Controls.writeAll, Controls.writeAll, List.foldl_append]
      exact samePrivileges_writeY _ v

/-- The spaces of ordinary data accesses share the common array (20_memory.md R101, R103). -/
theorem State.commonAsi_dataAsi (s : State) : commonAsi s.dataAsi = true := by
  unfold State.dataAsi
  split <;> rfl

/-- Bytes of the common space and of any other are different bytes of memory (R103). -/
theorem memKey_ne_of_common {asi asi' : Asi} (h : commonAsi asi = true) (h' : commonAsi asi' = false) (a a' : Word) :
    memKey asi' a' ≠ memKey asi a := by
  have ha := a.isLt
  simp only [memKey, spaceOf, h, h', if_true, Bool.false_eq_true, if_false]
  omega

/-- A store: in user mode to the common space. -/
theorem State.effect_store (s : State) (asi : Asi) (a : Word) (bs : List Byte)
    (hasi : s.psr.s = false → commonAsi asi = true) : s.Effect (s.store asi a bs) where
  mode := rfl
  intack := rfl
  memCanonical h := s.wf_store asi a bs h
  user hs :=
    { now := .refl _
      later := .refl _
      spaces := fun hm _ _ ha' =>
        Memory.read_writeBytes_outside _ _ _ _ _ hm fun _ _ => memKey_ne_of_common (hasi hs) ha' _ _ }

theorem State.effect_tornStore (s : State) (asi : Asi) (a first : Word)
    (hasi : s.psr.s = false → commonAsi asi = true) : s.Effect (s.tornStore asi a first) := by
  unfold State.tornStore
  split
  · exact (s.effect_store asi a _ hasi).trans (State.effect_free _ _)
  · exact s.effect_free _

theorem State.effect_driveUnit (s : State) (u : UnitId) (effect : CoUnit → CoUnit) : s.Effect (s.driveUnit u effect) := by
  unfold State.driveUnit
  split
  · exact s.effect_unsettle u
  · exact s.effect_setUnit u _

theorem State.effect_popQueue (s : State) (u : UnitId) : s.Effect (s.popQueue u) := by
  unfold State.popQueue
  split
  · exact s.effect_free _
  · exact s.effect_setUnit u _

/-! ## Word addresses -/

theorem wordAligned_iff (a : Word) : wordAligned a ↔ a.toNat % 4 = 0 := by
  rw [wordAligned, ← BitVec.toNat_inj, BitVec.extractLsb'_toNat]
  rfl

theorem wordAligned_add {a b : Word} (ha : wordAligned a) (hb : wordAligned b) : wordAligned (a + b) := by
  rw [wordAligned_iff] at *
  rw [BitVec.toNat_add]
  omega

theorem wordAligned_append (a : BitVec 30) : wordAligned (a ++ 0#2) := by
  rw [wordAligned_iff, BitVec.toNat_append]
  simp [Nat.shiftLeft_eq]

/-- The entries of the trap table are word addresses (10_state.md R75). -/
theorem wordAligned_tableEntry (a : BitVec 28) : wordAligned (a ++ 0#4) := by
  rw [wordAligned_iff, BitVec.toNat_append, Nat.shiftLeft_eq, BitVec.toNat_ofNat, Nat.zero_mod, Nat.or_zero]
  omega

/-- The displacement of a branch is a whole number of words (30_encoding.md R161). -/
theorem wordAligned_branchOffset (disp22 : BitVec 22) : wordAligned (branchOffset disp22) := by
  refine BitVec.eq_of_getLsbD_eq fun j hj => ?_
  have hj' : j < 24 := by omega
  simp only [branchOffset, BitVec.getLsbD_extractLsb', BitVec.getLsbD_signExtend, BitVec.getLsbD_append]
  simp [hj, hj']

theorem State.wordAligned_ctiBase (s : State) : wordAligned s.ctiBase := by
  unfold State.ctiBase
  split <;> rfl

theorem wordAligned_of_not_misaligned {a : Word} (h : misaligned .word a = false) : wordAligned a := by
  simpa [misaligned] using h

/-- The target of a branch or CALL is a word address, whatever the base of its displacement (43_control_transfer.md R361). -/
theorem State.wordAligned_target (s : State) {offset : Word} (hp : wordAligned s.pc) (ho : wordAligned offset) :
    wordAligned (s.pc + s.ctiBase + offset) :=
  wordAligned_add (wordAligned_add hp s.wordAligned_ctiBase) ho

/-- After a transfer the next address is its target, or a free word address (R365). -/
theorem State.wordAligned_transfer_npc (s : State) {target : Word} (h : wordAligned target) :
    wordAligned (s.transfer target).npc := by
  simp only [State.transfer]
  split
  · exact wordAligned_append _
  · exact h

/-! ## How an instruction ends -/

/-- An instruction executed in `s` that took no trap leaves `t`: it goes on at nPC, and then at a word address, if the counters
were word addresses. -/
structure State.GoesOn (s t : State) : Prop where
  effect : s.Effect t
  pc : t.pc = s.npc
  npcAligned : wordAligned s.pc → wordAligned s.npc → wordAligned t.npc

/-- How an instruction executed in `s` ends: with a trap, after some part of it was done, or at nPC. -/
inductive State.Ends (s : State) : State → Prop
  | trap {u : State} (trap : Trap) (effect : s.Effect u) : s.Ends (u.raise trap)
  | goesOn {t : State} (h : s.GoesOn t) : s.Ends t

/-- What is done besides to an instruction that goes on. -/
theorem State.GoesOn.and {s t u : State} (h : s.GoesOn t) (heffect : t.Effect u) (hpc : u.pc = t.pc) (hnpc : u.npc = t.npc) :
    s.GoesOn u where
  effect := h.effect.trans heffect
  pc := hpc.trans h.pc
  npcAligned hp hn := hnpc ▸ h.npcAligned hp hn

/-- The end of an instruction that transfers no control (00_scope.md R22). -/
theorem State.Effect.advance {s u : State} (h : s.Effect u) (hnpc : u.npc = s.npc) : s.GoesOn u.advance where
  effect := h.trans (.of_kept rfl rfl rfl rfl rfl)
  pc := hnpc
  npcAligned _ hn := wordAligned_add (hnpc ▸ hn) rfl

/-- The end of one that transfers control to a word address (43_control_transfer.md R362). -/
theorem State.Effect.transfer {s u : State} (h : s.Effect u) (hnpc : u.npc = s.npc) {target : Word}
    (htarget : wordAligned s.pc → wordAligned s.npc → wordAligned target) : s.GoesOn (u.transfer target) where
  effect := h.trans (.of_kept rfl rfl rfl rfl rfl)
  pc := hnpc
  npcAligned hp hn := u.wordAligned_transfer_npc (htarget hp hn)

/-- An instruction with trap conditions ends with a trap, or as it does when none of them holds. -/
theorem State.ends_attempt (s : State) {conds : List (Bool × Trap)} {done : State}
    (h : (∀ c ∈ conds, c.1 = false) → s.Ends done) : s.Ends (s.attempt conds done) := by
  rcases State.attempt_cases rfl with ⟨trap, -, heq⟩ | ⟨hnone, heq⟩ <;> rw [heq]
  · exact .trap trap (.refl s)
  · exact h ((firstTrap_eq_none_iff conds).1 hnone)

/-! ## Arithmetic and logic -/

theorem State.ends_result (s : State) (rd : RegNum) (v : Word) : s.Ends (s.result rd v) :=
  .goesOn ((s.effect_setReg rd v).advance rfl)

theorem State.effect_setIcc (s : State) (f : Icc) : s.Effect (s.setIcc f) := s.effect_updatePsr (unprivileged_icc f)

theorem State.Effect.resultCc {s u : State} (h : s.Effect u) (hnpc : u.npc = s.npc) (rd : RegNum) (v : Word) (f : Icc) :
    s.Ends (u.resultCc rd v f) :=
  .goesOn ((h.trans ((u.effect_setReg rd v).trans (State.effect_setIcc _ f))).advance hnpc)

theorem State.ends_resultCc (s : State) (rd : RegNum) (v : Word) (f : Icc) : s.Ends (s.resultCc rd v f) :=
  (State.Effect.refl s).resultCc rfl rd v f

theorem State.ends_taggedTrap (s : State) (rd : RegNum) (v : Word) (f : Icc) : s.Ends (s.taggedTrap rd v f) :=
  s.ends_attempt fun _ => s.ends_resultCc rd v f

theorem State.ends_flowCheck (s : State) (imm22 : BitVec 22) : s.Ends (s.flowCheck imm22) := by
  have hflow := s.effect_flow
  unfold State.flowCheck
  split
  · exact .goesOn ((hflow _ _ _).advance rfl)
  split
  · split
    · exact .trap _ (hflow _ _ _)
    · exact .goesOn ((hflow _ _ _).advance rfl)
  · dsimp only
    split
    · exact .trap _ (hflow _ _ _)
    · exact .goesOn ((hflow _ _ _).advance rfl)

theorem State.ends_sethi (s : State) (rd : RegNum) (imm22 : BitVec 22) :
    s.Ends (if s.pins.flowEnabled && rd == 0#5 then s.flowCheck imm22 else s.result rd (sethiValue imm22)) := by
  split
  · exact s.ends_flowCheck imm22
  · exact s.ends_result rd _

/-! ## Control transfer -/

theorem State.Effect.branch {s u : State} (h : s.Effect u) (hpc : u.pc = s.pc) (hnpc : u.npc = s.npc) (always taken a : Bool)
    (disp22 : BitVec 22) : s.Ends (u.branch always taken a disp22) :=
  have htarget : wordAligned s.pc → wordAligned s.npc →
      wordAligned (if taken then u.branchTarget disp22 else u.npc + 4#32) := fun hp hn => by
    split
    · exact u.wordAligned_target (hpc ▸ hp) (wordAligned_branchOffset disp22)
    · exact wordAligned_add (hnpc ▸ hn) rfl
  .goesOn ((h.transfer hnpc htarget).and (.of_kept rfl rfl rfl rfl rfl) rfl rfl)

theorem State.ends_branchIcc (s : State) (cond : BitVec 4) (a : Bool) (disp22 : BitVec 22) :
    s.Ends (s.branchIcc cond a disp22) :=
  (State.Effect.refl s).branch rfl rfl _ _ a disp22

theorem State.ends_branchUnit (s : State) (u : UnitId) (cond : BitVec 4) (a : Bool) (disp22 : BitVec 22) :
    s.Ends (s.branchUnit u cond a disp22) :=
  s.ends_attempt fun _ => by
    unfold State.branchCc
    split
    · exact (s.effect_free (s.free + 1)).branch rfl rfl _ _ a disp22
    · exact (State.Effect.refl s).branch rfl rfl _ _ a disp22

theorem State.ends_trapIcc (s : State) (cond : BitVec 4) (rs1 : RegNum) (src : Operand2) : s.Ends (s.trapIcc cond rs1 src) :=
  s.ends_attempt fun _ => .goesOn ((State.Effect.refl s).advance rfl)

theorem State.ends_moveWindow (s : State) (cwp : Window) (invalid : Trap) (rd : RegNum) (v : Word) :
    s.Ends (s.moveWindow cwp invalid rd v) :=
  s.ends_attempt fun _ =>
    .goesOn (((s.effect_updatePsr (unprivileged_cwp cwp)).trans (State.effect_setReg _ rd v)).advance rfl)

theorem State.ends_call (s : State) (disp30 : BitVec 30) :
    s.Ends ((s.setReg 15#5 s.pc).transfer (s.pc + s.ctiBase + callOffset disp30)) :=
  .goesOn ((s.effect_setReg _ _).transfer rfl fun hp _ => s.wordAligned_target hp (wordAligned_append disp30))

theorem State.ends_jmpl (s : State) (rd : RegNum) (target : Word) :
    s.Ends (s.attempt [(misaligned .word target, .notAligned)] ((s.setReg rd s.pc).transfer target)) :=
  s.ends_attempt fun h =>
    .goesOn ((s.effect_setReg _ _).transfer rfl fun _ _ => wordAligned_of_not_misaligned (by simpa using h))

/-- RETT changes S and ET, in supervisor mode. -/
theorem State.ends_rett (s : State) (target : Word) : s.Ends (s.attempt (s.rettTraps target) (s.returnFromTrap target)) :=
  s.ends_attempt fun h => by
    simp only [State.rettTraps, List.forall_mem_cons, Bool.not_eq_false'] at h
    obtain ⟨-, hs, -, halign, -⟩ := h
    refine .goesOn
      { effect := { mode := rfl, intack := rfl, memCanonical := id, user := fun hu => by simp [hs] at hu }
        pc := rfl
        npcAligned := fun _ _ => State.wordAligned_transfer_npc _ (wordAligned_of_not_misaligned halign) }

/-! ## Control registers -/

theorem State.ends_controlWritten (s : State) (w : ControlWrite) (hw : s.psr.s = false → ∃ v, w = .y v) :
    s.Ends (s.controlWritten w) :=
  .goesOn ((s.effect_writeControl w hw).advance rfl)

/-- A privileged write. -/
theorem State.ends_privilegedWrite (s : State) (conds : List (Bool × Trap)) (w : ControlWrite)
    (hpriv : (!s.psr.s, .privilegedInstruction) ∈ conds) : s.Ends (s.attempt conds (s.controlWritten w)) :=
  s.ends_attempt fun h => s.ends_controlWritten w fun hs => by simpa [hs] using h _ hpriv

theorem State.ends_privilegedRead (s : State) (rd : RegNum) (v : Word) :
    s.Ends (s.attempt s.privilegeTraps (s.result rd v)) :=
  s.ends_attempt fun _ => s.ends_result rd v

/-! ## Integer loads and stores -/

theorem State.ends_alternate (s : State) (rs1 : RegNum) (src : AltSource) (body : Asi → Word → State)
    (h : ∀ asi ea, s.Ends (body asi ea)) : s.Ends (s.alternate rs1 src body) := by
  cases src with
  | imm _ => exact .trap _ (.refl s)
  | reg asi rs2 => exact h asi _

/-- No condition of an access holds: in user mode it is then no alternate one, and goes to the common space (R101, R224). -/
theorem State.commonAsi_of_memTraps {s : State} {alternate : Bool} {size : AccessSize} {ea : Word} {refused : Bool} {asi : Asi}
    (hasi : alternate = false → commonAsi asi = true)
    (h : ∀ c ∈ s.memTraps alternate size ea refused, c.1 = false) : s.psr.s = false → commonAsi asi = true := by
  simp only [State.memTraps, List.forall_mem_cons] at h
  obtain ⟨halt, -⟩ := h
  exact fun hs => hasi (by simpa [hs] using halt)

theorem State.ends_loadInto (s : State) (alternate : Bool) (asi : Asi) (ea : Word) (size : AccessSize) (rd : RegNum)
    (value : Word) : s.Ends (s.loadInto alternate asi ea size rd value) :=
  s.ends_attempt fun _ => .goesOn ((s.effect_setReg rd value).advance rfl)

theorem State.ends_loadPair (s : State) (alternate : Bool) (asi : Asi) (ea : Word) (rd : RegNum) :
    s.Ends (s.loadPair alternate asi ea rd) :=
  s.ends_attempt fun _ => .goesOn (((s.effect_setReg _ _).trans (State.effect_setReg _ _ _)).advance rfl)

theorem State.ends_storeFrom (s : State) (alternate : Bool) (asi : Asi) (ea : Word) (size : AccessSize) (bs : List Byte)
    (hasi : alternate = false → commonAsi asi = true) : s.Ends (s.storeFrom alternate asi ea size bs) :=
  s.ends_attempt fun h => .goesOn ((s.effect_store asi ea bs (State.commonAsi_of_memTraps hasi h)).advance rfl)

theorem State.ends_storeBoth (s : State) (asi : Asi) (ea w0 w1 : Word) (after : State → State)
    (hasi : s.psr.s = false → commonAsi asi = true) (hafter : ∀ t, s.Effect t → t.npc = s.npc → s.Ends (after t)) :
    s.Ends (s.storeBoth asi ea w0 w1 after) := by
  unfold State.storeBoth
  split
  · exact .trap _ (s.effect_tornStore asi ea w0 hasi)
  · exact hafter _ (s.effect_store asi ea _ hasi) rfl

theorem State.ends_storePair (s : State) (alternate : Bool) (asi : Asi) (ea : Word) (rd : RegNum)
    (hasi : alternate = false → commonAsi asi = true) : s.Ends (s.storePair alternate asi ea rd) :=
  s.ends_attempt fun h =>
    s.ends_storeBoth asi ea _ _ _ (State.commonAsi_of_memTraps hasi h) fun _ ht hnpc => .goesOn (ht.advance hnpc)

theorem State.ends_exchange (s : State) (alternate : Bool) (asi : Asi) (ea : Word) (size : AccessSize) (rd : RegNum)
    (old : Word) (bs : List Byte) (hasi : alternate = false → commonAsi asi = true) :
    s.Ends (s.exchange alternate asi ea size rd old bs) :=
  s.ends_attempt fun h =>
    .goesOn (((s.effect_store asi ea bs (State.commonAsi_of_memTraps hasi h)).trans (State.effect_setReg _ _ _)).advance rfl)

/-! ## The attached units -/

theorem State.driveUnit_npc (s : State) (u : UnitId) (effect : CoUnit → CoUnit) : (s.driveUnit u effect).npc = s.npc := by
  unfold State.driveUnit
  split <;> rfl

theorem State.popQueue_npc (s : State) (u : UnitId) : (s.popQueue u).npc = s.npc := by
  unfold State.popQueue
  split <;> rfl

theorem State.ends_loadUnit (s : State) (u : UnitId) (ea : Word) (effect : Word → CoUnit → CoUnit) :
    s.Ends (s.loadUnit u ea effect) :=
  s.ends_attempt fun _ => .goesOn ((s.effect_driveUnit u _).advance (s.driveUnit_npc u _))

theorem State.ends_loadUnitPair (s : State) (u : UnitId) (ea : Word) (rd : RegNum) : s.Ends (s.loadUnitPair u ea rd) :=
  s.ends_attempt fun _ => .goesOn ((s.effect_driveUnit u _).advance (s.driveUnit_npc u _))

theorem State.ends_storeUnit (s : State) (u : UnitId) (ea : Word) (w : CoUnit → Word) : s.Ends (s.storeUnit u ea w) :=
  s.ends_attempt fun _ =>
    .goesOn (((s.effect_store _ ea _ fun _ => s.commonAsi_dataAsi).trans (State.effect_driveUnit _ u id)).advance
      (State.driveUnit_npc _ u id))

theorem State.ends_storeUnitPair (s : State) (u : UnitId) (ea : Word) (rd : RegNum) : s.Ends (s.storeUnitPair u ea rd) :=
  s.ends_attempt fun _ =>
    s.ends_storeBoth _ ea _ _ _ (fun _ => s.commonAsi_dataAsi) fun t ht hnpc =>
      .goesOn ((ht.trans (t.effect_driveUnit u id)).advance ((t.driveUnit_npc u id).trans hnpc))

theorem State.ends_storeQueue (s : State) (u : UnitId) (ea : Word) : s.Ends (s.storeQueue u ea) :=
  s.ends_attempt fun _ =>
    s.ends_storeBoth _ ea _ _ _ (fun _ => s.commonAsi_dataAsi) fun t ht hnpc =>
      .goesOn ((ht.trans (t.effect_popQueue u)).advance ((t.popQueue_npc u).trans hnpc))

/-! ## Floating-point-operate and coprocessor-operate instructions -/

theorem State.goesOn_launched (s : State) (u : UnitId) (x : CoUnit) : s.GoesOn (s.launched u x) :=
  ((s.effect_setUnit u x).trans (State.effect_free _ _)).advance rfl

theorem State.goesOn_openOperation (s : State) (u : UnitId) : s.GoesOn (s.openOperation u) := by
  unfold State.openOperation
  split
  · exact (s.effect_unsettle u).advance rfl
  · exact s.goesOn_launched u _

theorem State.GoesOn.afterCompare {s t : State} (h : s.GoesOn t) (u : UnitId) : s.GoesOn (t.afterCompare u) :=
  h.and (.of_kept rfl rfl rfl rfl rfl) rfl rfl

theorem State.ends_fpop (s : State) (regsFit : Bool) {done : State} (h : s.GoesOn done) : s.Ends (s.fpop regsFit done) :=
  s.ends_attempt fun _ => by
    split
    · exact .goesOn (s.goesOn_openOperation .fpu)
    · exact .goesOn h

theorem State.goesOn_fpResult (s : State) (opf : BitVec 9) (dst : FpFormat) (rd : RegNum) (a b : BitVec 128)
    (exact : BitVec 128 → Option (BitVec 128)) : s.GoesOn (s.fpResult opf dst rd a b exact) := by
  simp only [State.fpResult]
  split <;> exact s.goesOn_launched .fpu _

theorem State.goesOn_fpCompareResult (s : State) (opf : BitVec 9) (a b : BitVec 128) (exact : Option (BitVec 2)) :
    s.GoesOn (s.fpCompareResult opf a b exact) := by
  simp only [State.fpCompareResult]
  split <;> exact s.goesOn_launched .fpu _

theorem State.ends_fpCompare (s : State) (opf : BitVec 9) (t : FpFormat) (rs1 rs2 : RegNum) :
    s.Ends (s.fpCompare opf t rs1 rs2) :=
  s.ends_attempt fun _ => .goesOn <| .afterCompare (u := .fpu) <| by
    split
    · exact s.goesOn_openOperation .fpu
    · exact s.goesOn_fpCompareResult opf _ _ _

theorem State.ends_cpop (s : State) : s.Ends s.cpop :=
  s.ends_attempt fun _ => .goesOn ((s.goesOn_openOperation .cp).afterCompare .cp)

/-! ## Every instruction -/

/-- Every instruction has a next state, and ends with a trap or goes on; in user mode it is confined. Families of instructions
share an operation, and with it the argument. -/
theorem exec_ends (i : Instr) (s : State) : ∃ t, exec i s = .next t ∧ s.Ends t := by
  cases i
  case ld | ldub | lduh | ldsb | ldsh =>
    exact ⟨_, rfl, s.ends_loadInto ..⟩
  case ldd =>
    exact ⟨_, rfl, s.ends_loadPair ..⟩
  case st | stb | sth =>
    exact ⟨_, rfl, s.ends_storeFrom _ _ _ _ _ fun _ => s.commonAsi_dataAsi⟩
  case std =>
    exact ⟨_, rfl, s.ends_storePair _ _ _ _ fun _ => s.commonAsi_dataAsi⟩
  case ldstub | swap =>
    exact ⟨_, rfl, s.ends_exchange _ _ _ _ _ _ _ fun _ => s.commonAsi_dataAsi⟩
  case lda | lduba | lduha | ldsba | ldsha =>
    exact ⟨_, rfl, s.ends_alternate _ _ _ fun _ _ => s.ends_loadInto ..⟩
  case ldda =>
    exact ⟨_, rfl, s.ends_alternate _ _ _ fun _ _ => s.ends_loadPair ..⟩
  case sta | stba | stha =>
    exact ⟨_, rfl, s.ends_alternate _ _ _ fun _ _ => s.ends_storeFrom _ _ _ _ _ nofun⟩
  case stda =>
    exact ⟨_, rfl, s.ends_alternate _ _ _ fun _ _ => s.ends_storePair _ _ _ _ nofun⟩
  case ldstuba | swapa =>
    exact ⟨_, rfl, s.ends_alternate _ _ _ fun _ _ => s.ends_exchange _ _ _ _ _ _ _ nofun⟩
  case ldf | ldfsr | ldc | ldcsr =>
    exact ⟨_, rfl, s.ends_loadUnit ..⟩
  case lddf | lddc =>
    exact ⟨_, rfl, s.ends_loadUnitPair ..⟩
  case stf | stfsr | stc | stcsr =>
    exact ⟨_, rfl, s.ends_storeUnit ..⟩
  case stdfq | stdcq =>
    exact ⟨_, rfl, s.ends_storeQueue ..⟩
  case stdf | stdc =>
    exact ⟨_, rfl, s.ends_storeUnitPair ..⟩
  case add | and | or | xor | sub | andn | orn | xnor | addx | subx | sll | srl | sra | rdy =>
    exact ⟨_, rfl, s.ends_result ..⟩
  case addcc | andcc | orcc | xorcc | subcc | andncc | orncc | xnorcc | addxcc | subxcc | taddcc | tsubcc =>
    exact ⟨_, rfl, s.ends_resultCc ..⟩
  case taddcctv | tsubcctv =>
    exact ⟨_, rfl, s.ends_taggedTrap ..⟩
  case mulscc =>
    exact ⟨_, rfl, (s.effect_updateY _).resultCc rfl ..⟩
  case sethi =>
    exact ⟨_, rfl, s.ends_sethi ..⟩
  case bn | be | ble | bl | bleu | bcs | bneg | bvs | ba | bne | bg | bge | bgu | bcc | bpos | bvc =>
    exact ⟨_, rfl, s.ends_branchIcc ..⟩
  case fbn | fbne | fblg | fbul | fbl | fbug | fbg | fbu | fba | fbe | fbue | fbge | fbuge | fble | fbule | fbo | cbn
      | cb123 | cb12 | cb13 | cb1 | cb23 | cb2 | cb3 | cba | cb0 | cb03 | cb02 | cb023 | cb01 | cb013 | cb012 =>
    exact ⟨_, rfl, s.ends_branchUnit ..⟩
  case call =>
    exact ⟨_, rfl, s.ends_call _⟩
  case jmpl =>
    exact ⟨_, rfl, s.ends_jmpl ..⟩
  case rett =>
    exact ⟨_, rfl, s.ends_rett _⟩
  case tn | te | tle | tl | tleu | tcs | tneg | tvs | ta | tne | tg | tge | tgu | tcc | tpos | tvc =>
    exact ⟨_, rfl, s.ends_trapIcc ..⟩
  case save | restore =>
    exact ⟨_, rfl, s.ends_moveWindow ..⟩
  case rdpsr | rdwim | rdtbr =>
    exact ⟨_, rfl, s.ends_privilegedRead ..⟩
  case wry =>
    exact ⟨_, rfl, s.ends_controlWritten _ fun _ => ⟨_, rfl⟩⟩
  case wrpsr =>
    exact ⟨_, rfl, s.ends_privilegedWrite _ _ (by simp [State.wrpsrTraps])⟩
  case wrwim | wrtbr =>
    exact ⟨_, rfl, s.ends_privilegedWrite _ _ (by simp [State.privilegeTraps])⟩
  case fmovs | fpop1Reserved | fpop2Reserved =>
    exact ⟨_, rfl, s.ends_fpop _ (s.goesOn_launched ..)⟩
  case fnegs | fabss | fsqrts | fsqrtd | fsqrtx | fitos | fdtos | fxtos | fitod | fstod | fxtod | fitox | fstox |
      fdtox | fstoi | fdtoi | fxtoi | fadds | faddd | faddx | fsubs | fsubd | fsubx | fmuls | fmuld | fmulx | fdivs |
      fdivd | fdivx =>
    exact ⟨_, rfl, s.ends_fpop _ (s.goesOn_fpResult ..)⟩
  case fcmps | fcmpd | fcmpx | fcmpes | fcmped | fcmpex =>
    exact ⟨_, rfl, s.ends_fpCompare ..⟩
  case cpop1 | cpop2 =>
    exact ⟨_, rfl, s.ends_cpop⟩
  case iflush =>
    exact ⟨_, rfl, s.ends_attempt fun _ => .goesOn ((State.Effect.refl s).advance rfl)⟩
  -- UNIMP and the reserved encodings (30_encoding.md R156)
  all_goals exact ⟨_, rfl, .trap _ (.refl s)⟩

/-- `exec_ends` for the state an instruction is known to leave. -/
theorem ends_of_exec {i : Instr} {s t : State} (h : exec i s = .next t) : s.Ends t := by
  obtain ⟨t', ht', hends⟩ := exec_ends i s
  rw [ht', Host.Outcome.next.injEq] at h
  exact h ▸ hends

/-- A trap that confined work ends with is one of the machine before that work: it saves and keeps what is settled there. -/
theorem State.Confined.raise {s u : State} (h : s.Confined u) (hmode : u.mode = s.mode) (trap : Trap) :
    let s' := s.settleLate
    let t := u.raise trap
    t.late = [] ∧ t.psr.s = true ∧ t.psr.ps = s'.psr.s ∧ t.psr.et = false ∧ t.psr.pil = s'.psr.pil ∧ t.psr.ef = s'.psr.ef ∧
      t.psr.ec = s'.psr.ec ∧ t.wim = s'.wim ∧ t.tbr.tba = s'.tbr.tba ∧ t.pc = s'.tbr.tba ++ t.tbr.tt ++ 0#4 ∧
      t.mode = if s.psr.et then s.mode else .error := by
  obtain ⟨-, -, -, -, -, (het : u.psr.et = s.psr.et), -⟩ := (samePrivileges_iff _ _).1 h.now
  obtain ⟨hpil, hef, hec, hs, -, -, hwim, (htbr : u.settleLate.tbr = s.settleLate.tbr)⟩ := (samePrivileges_iff _ _).1 h.later
  refine ⟨rfl, rfl, hs, rfl, hpil, hef, hec, hwim, (congrArg Tbr.tba htbr :), ?_, ?_⟩
  · rw [State.raise_pc, State.raise_tbr, htbr]
  · rw [State.raise_mode, State.modeAfterTrap, het, hmode]

/-- Settles O7: whatever part of an instruction is done in user mode is confined, and a trap keeps what is settled. -/
theorem userModeIsConfined : Obligations.UserModeIsConfined := by
  intro i s t hs hm hexec s'
  cases ends_of_exec hexec with
  | goesOn h =>
    obtain ⟨hnow, hlater, hspaces⟩ := h.effect.user hs
    exact ⟨.inl ⟨hnow, hlater, h.effect.mode⟩, hspaces hm⟩
  | trap trap effect =>
    have hu := effect.user hs
    exact ⟨.inr (hu.raise effect.mode trap), hu.spaces hm⟩

/-! ## The invariant -/

/-- A trap establishes the invariant: the trap table is aligned, and the entry disables traps in supervisor mode (60_exceptions.md
R520, R523), so that INTACK may stand. -/
theorem State.inv_raise (s : State) (trap : Trap) (hm : s.mem.wf = true) : (s.raise trap).Inv :=
  have hpc : wordAligned (s.raise trap).pc := wordAligned_tableEntry _
  { pcAligned := hpc
    npcAligned := wordAligned_add hpc rfl
    memCanonical := hm
    interruptTaken := fun _ => ⟨rfl, rfl⟩ }

/-- The invariant asks nothing of what is not a program counter, memory, the PSR or INTACK. -/
theorem State.Inv.congr {s t : State} (h : s.Inv) (hpc : t.pc = s.pc) (hnpc : t.npc = s.npc) (hmem : t.mem = s.mem)
    (hintack : t.intack = true → t.psr.et = false ∧ t.psr.s = true) : t.Inv where
  pcAligned := hpc ▸ h.pcAligned
  npcAligned := hnpc ▸ h.npcAligned
  memCanonical := hmem ▸ h.memCanonical
  interruptTaken := hintack

theorem State.inv_hardwareTrap (s : State) (trap : Trap) (hm : s.mem.wf = true) : (s.hardwareTrap trap).Inv :=
  (s.inv_raise trap hm).congr rfl rfl rfl fun _ => ⟨rfl, rfl⟩

theorem State.inv_takeInterrupt (s : State) (hm : s.mem.wf = true) : s.takeInterrupt.Inv :=
  (s.inv_raise _ hm).congr rfl rfl rfl fun _ => ⟨rfl, rfl⟩

/-- An instruction keeps the invariant while INTACK is off. -/
theorem State.Ends.inv {s t : State} (h : s.Ends t) (hs : s.Inv) (hintack : s.intack = false) : t.Inv := by
  cases h with
  | trap trap effect => exact State.inv_raise _ trap (effect.memCanonical hs.memCanonical)
  | goesOn h =>
    exact
      { pcAligned := h.pc ▸ hs.npcAligned
        npcAligned := h.npcAligned hs.pcAligned hs.npcAligned
        memCanonical := h.effect.memCanonical hs.memCanonical
        interruptTaken := fun ht => by simp [h.effect.intack, hintack] at ht }

/-! ### The boundary -/

/-- The board's input accepted: memory is as other masters leave it, and INTACK is off. -/
theorem State.inv_accept {s : State} (hs : s.Inv) (inp : BoardInput) :
    (s.accept inp).Inv ∧ (s.accept inp).intack = false := by
  rw [State.accept_frame]
  exact ⟨⟨hs.pcAligned, hs.npcAligned, State.wf_busWrites _ s hs.memCanonical, nofun⟩, rfl⟩

theorem State.inv_tickLate {s : State} (hs : s.Inv) (hintack : s.intack = false) : s.tickLate.Inv :=
  hs.congr rfl rfl rfl fun h => by simp [hintack] at h

theorem State.inv_skip {s : State} (hs : s.Inv) (hintack : s.intack = false) : s.skip.Inv := by
  rw [State.skip_frame]
  exact ⟨hs.npcAligned, wordAligned_add hs.npcAligned rfl, hs.memCanonical, fun h => by simp [hintack] at h⟩

/-- Reset establishes the invariant (70_reset_and_hazards.md R620). -/
theorem State.inv_leaveReset (s : State) (hm : s.mem.wf = true) : s.leaveReset.Inv where
  pcAligned := rfl
  npcAligned := show wordAligned 4#32 from rfl
  memCanonical := hm
  interruptTaken _ := ⟨rfl, rfl⟩

/-- A boundary in execute mode that ends the step: a hardware error, an interrupt, an annulled slot, or a refused fetch. -/
theorem State.executeBoundary_over {a t : State} {inp : BoardInput} (h : a.executeBoundary inp = .over t) :
    (∃ trap, t = a.hardwareTrap trap) ∨ t = a.takeInterrupt ∨ t = a.skip ∨ t = a.raise .instructionAccess := by
  unfold State.executeBoundary at h
  split at h
  · cases h; exact .inl ⟨_, rfl⟩
  split at h
  · cases h; exact .inr (.inl rfl)
  split at h
  · cases h; exact .inr (.inr (.inl rfl))
  split at h
  · cases h
    split
    · exact .inl ⟨_, rfl⟩
    · exact .inr (.inr (.inr rfl))
  · cases h

/-- A boundary that ends the step, in the state `b` that has accepted the board's input: the machine is held in a mode, leaves
reset, or the boundary is one of execute mode. -/
theorem State.boundary_over {s t : State} (h : s.boundary = .over t) :
    let b := s.accept s.input
    (∃ m, t = { b with mode := m }) ∨ t = b.leaveReset ∨ b.tickLate.executeBoundary s.input = .over t := by
  intro b
  unfold State.boundary State.acceptedBoundary at h
  split at h
  · cases h
  split at h
  · cases h
  split at h
  · cases h; exact .inl ⟨.reset, rfl⟩
  split at h
  · cases h; exact .inr (.inl rfl)
  · cases h; exact .inl ⟨b.mode, rfl⟩
  split at h
  · cases h; exact .inl ⟨b.mode, rfl⟩
  split at h
  · cases h; exact .inl ⟨.error, rfl⟩
  · exact .inr (.inr h)

theorem State.inv_of_executeBoundary_over {a t : State} {inp : BoardInput} (ha : a.Inv) (hintack : a.intack = false)
    (h : a.executeBoundary inp = .over t) : t.Inv := by
  rcases State.executeBoundary_over h with ⟨trap, rfl⟩ | rfl | rfl | rfl
  · exact a.inv_hardwareTrap trap ha.memCanonical
  · exact a.inv_takeInterrupt ha.memCanonical
  · exact State.inv_skip ha hintack
  · exact a.inv_raise _ ha.memCanonical

theorem State.inv_of_boundary_over {s t : State} (hs : s.Inv) (h : s.boundary = .over t) : t.Inv := by
  obtain ⟨hb, hintack⟩ := State.inv_accept hs s.input
  rcases State.boundary_over h with ⟨m, rfl⟩ | rfl | hover
  · exact hb.congr rfl rfl rfl fun h => by simp [hintack] at h
  · exact State.inv_leaveReset _ hb.memCanonical
  · exact State.inv_of_executeBoundary_over (State.inv_tickLate hb hintack) hintack hover

/-! ### The word executed -/

theorem State.inv_executeWord {u v : State} {inp : BoardInput} {w : Word} (hu : u.Inv) (hintack : u.intack = false)
    (h : u.executeWord inp w = .next v) : v.Inv := by
  unfold State.executeWord at h
  split at h
  · cases h
    exact (u.inv_raise .fpDisabled hu.memCanonical).congr rfl rfl rfl fun _ => ⟨rfl, rfl⟩
  · exact (ends_of_exec h).inv hu hintack

theorem State.spoil_mem (s : State) (target : LoadTarget) : (s.spoil target).mem = s.mem := by
  cases target <;> rfl

theorem State.inv_finish {u v : State} (inp : BoardInput) (i : Instr) (hu : u.Inv) (hv : v.Inv) :
    (u.finish inp i v).Inv := by
  rcases u.finish_cases v inp i with h | h | h | h <;> rw [h]
  · exact u.inv_hardwareTrap _ hu.memCanonical
  · refine State.inv_hardwareTrap _ _ ?_
    rw [State.spoil_mem]
    unfold State.afterLoad
    split
    · exact hu.memCanonical
    · exact hv.memCanonical
  · exact u.inv_hardwareTrap _ hu.memCanonical
  · exact hv

/-- Settles O6: the boundary keeps the invariant and ends INTACK, every instruction keeps it while INTACK is off (`exec_ends`),
and every trap establishes it. -/
theorem stepKeepsInvariant : Obligations.StepKeepsInvariant := by
  intro s t hs hstep
  rcases step_next hstep with hover | ⟨w, u, v, hrun, hexec, rfl⟩
  · exact State.inv_of_boundary_over hs hover
  · obtain ⟨hb, hintack⟩ := State.inv_accept hs s.input
    obtain ⟨-, rfl, -⟩ := State.boundary_run hrun
    have hu := (State.inv_tickLate hb hintack).congr (t := (s.accept s.input).tickLate.latch w) rfl rfl rfl
      fun h => by simp [hintack] at h
    exact State.inv_finish _ _ hu (State.inv_executeWord hu hintack hexec)

end Sys2Proof.Machine

/-! The statement on a word stored and read back (spec 20_memory.md R103, R105, R108). A byte of memory is known by its key, and
keys are told apart by the number of the space and by the address. -/

namespace Sys2Proof.Machine

/-! ## Spaces and keys -/

/-- The spaces of the common array (20_memory.md R103). -/
theorem commonAsi_iff (asi : Asi) : commonAsi asi = true ↔ 0x08 ≤ asi.toNat ∧ asi.toNat ≤ 0x0B := by
  simp [commonAsi, BitVec.le_def]

/-- Spaces are told apart by their numbers, but for those of the common array (R103; log 15). -/
theorem spaceOf_eq_iff (asi asi' : Asi) :
    spaceOf asi = spaceOf asi' ↔ asi = asi' ∨ (commonAsi asi = true ∧ commonAsi asi' = true) := by
  unfold spaceOf
  by_cases h : commonAsi asi = true <;> by_cases h' : commonAsi asi' = true
  · simp [h, h']
  · have hne : asi ≠ asi' := by rintro rfl; exact h' h
    simp [h, h', hne]
  · have hne : asi ≠ asi' := by rintro rfl; exact h h'
    simp [h, h', hne]
  · simp [h, h', BitVec.toNat_inj]

/-- A key holds its space's number above the 32 bits of its address (R100). -/
theorem memKey_eq_iff (asi asi' : Asi) (a a' : Word) :
    memKey asi a = memKey asi' a' ↔ a = a' ∧ spaceOf asi = spaceOf asi' := by
  unfold memKey
  rw [← BitVec.toNat_inj]
  omega

/-- Bytes in a row have keys in a row, up to the end of the space. -/
theorem memKey_add (asi : Asi) (a : Word) (j : Nat) (h : a.toNat + j < 2 ^ 32) :
    memKey asi (a + BitVec.ofNat 32 j) = memKey asi a + j := by
  have hsum : (a + BitVec.ofNat 32 j).toNat = a.toNat + j := by
    rw [BitVec.toNat_add, BitVec.toNat_ofNat, Nat.add_mod_mod, Nat.mod_eq_of_lt h]
  rw [memKey, memKey, hsum, Nat.add_assoc]

/-! ## Words -/

/-- A word is its four bytes, the most significant first (R105). -/
theorem wordOfBytes_extractLsb' (w : Word) :
    wordOfBytes (w.extractLsb' 24 8) (w.extractLsb' 16 8) (w.extractLsb' 8 8) (w.extractLsb' 0 8) = w := by
  rw [wordOfBytes, BitVec.extractLsb'_append_extractLsb'_eq_extractLsb' (by rfl : 24 = 16 + 8),
    BitVec.extractLsb'_append_extractLsb'_eq_extractLsb' (by rfl : 16 = 8 + 8),
    BitVec.extractLsb'_append_extractLsb'_eq_extractLsb' (by rfl : 8 = 0 + 8)]
  exact BitVec.extractLsb'_eq_self

/-- The word read where the bytes of a word were stored is that word (R105, R108). -/
theorem StoresBytes.readWord {s t : State} {asi : Asi} {a w : Word} (h : StoresBytes s t asi a (bytesOfWord w)) :
    t.readWord asi a = w := by
  obtain ⟨hbytes, -, -⟩ := h
  have h0 := hbytes 0 (by simp [bytesOfWord])
  have h1 := hbytes 1 (by simp [bytesOfWord])
  have h2 := hbytes 2 (by simp [bytesOfWord])
  have h3 := hbytes 3 (by simp [bytesOfWord])
  rw [BitVec.add_zero] at h0
  rw [State.readWord, h0, h1, h2, h3]
  exact wordOfBytes_extractLsb' w

/-- Spaces of one number hold the same words. -/
theorem State.readWord_of_spaceOf_eq (s : State) {asi asi' : Asi} (h : spaceOf asi = spaceOf asi') (a : Word) :
    s.readWord asi a = s.readWord asi' a := by
  simp only [State.readWord, State.readByte, memKey, h]

/-- Settles O10: a store of a word is the frame `StoresBytes`, from which the word is read in every space of the same number. -/
theorem storedWordReadsBack : Obligations.StoredWordReadsBack := by
  intro s asi asi' a w
  refine ⟨commonAsi_iff asi, fun a' => ?_, memKey_add asi a, fun hm => ?_⟩
  · rw [memKey_eq_iff, spaceOf_eq_iff]
  · have hstore := storesBytes_store s asi a (bytesOfWord w) hm (by simp [bytesOfWord])
    have ⟨hbytes, _, _⟩ := hstore
    refine ⟨s.wf_store asi a _ hm, hstore.readWord, fun h h' => ?_, ?_, hstore⟩
    · have hspace := (spaceOf_eq_iff asi asi').2 (.inr ⟨h, h'⟩)
      rw [← State.readWord_of_spaceOf_eq _ hspace, hstore.readWord]
    · simpa [bytesOfWord] using hbytes 0 (by simp [bytesOfWord])

end Sys2Proof.Machine

/-! The statements on the entry into a trap (spec 60_exceptions.md R520 to R523) and the return from one (43_control_transfer.md
R388). -/

namespace Sys2Proof.Machine

/-! ## Trap entry -/

/-- The program counters that a trap saves, in r[17] and r[18] of the window `w` (60_exceptions.md R521). -/
def State.saveCounters (s : State) (w : Window) : State :=
  (s.setRegIn w 17#5 s.savedPcs.1).setRegIn w 18#5 s.savedPcs.2

/-- A trap saves them in the window below the one that the late writes leave (R520; log 22). -/
theorem State.raise_globals (s : State) (trap : Trap) :
    (s.raise trap).globals = (s.saveCounters (s.settleLate.psr.cwp - 1#3)).globals := rfl
theorem State.raise_windows (s : State) (trap : Trap) :
    (s.raise trap).windows = (s.saveCounters (s.settleLate.psr.cwp - 1#3)).windows := rfl

theorem State.raise_regIn (s : State) (trap : Trap) (w : Window) (n : RegNum) :
    (s.raise trap).regIn w n = (s.saveCounters (s.settleLate.psr.cwp - 1#3)).regIn w n :=
  State.regIn_congr (s.raise_globals trap) (s.raise_windows trap) w n

theorem State.raise_physWritten (s : State) (trap : Trap) (p : PhysReg) :
    (s.raise trap).physWritten p = (s.saveCounters (s.settleLate.psr.cwp - 1#3)).physWritten p := by
  cases p <;> rfl

theorem State.saveCounters_pc (s : State) (w : Window) : (s.saveCounters w).regIn w 17#5 = s.savedPcs.1 := by
  have hne : phys w 17#5 ≠ phys w 18#5 := mt (phys_injective w 17#5 18#5) (by decide)
  simp [State.saveCounters, State.regIn_setRegIn, hne]

theorem State.saveCounters_npc (s : State) (w : Window) : (s.saveCounters w).regIn w 18#5 = s.savedPcs.2 := by
  simp [State.saveCounters, State.regIn_setRegIn]

theorem State.saveCounters_other (s : State) {w w' : Window} {n : RegNum} (h17 : phys w' n ≠ phys w 17#5)
    (h18 : phys w' n ≠ phys w 18#5) : (s.saveCounters w).regIn w' n = s.regIn w' n := by
  simp [State.saveCounters, State.regIn_setRegIn, h17, h18]

theorem State.countsWritten_saveCounters (s : State) (w : Window) :
    CountsWritten s (s.saveCounters w) [phys w 17#5, phys w 18#5] := fun p => by
  simp [State.saveCounters, State.setRegIn, State.physWritten_writePhys, Bool.or_left_comm, Bool.or_assoc]

/-- What a trap saves: the counters, past an annulled instruction (R521). -/
theorem State.savedPcs_eq (s : State) :
    s.savedPcs = (if s.annul then s.npc else s.pc, if s.annul then s.npc + 4#32 else s.npc) := by
  unfold State.savedPcs
  split <;> rfl

/-- Everything a trap does to the state, with traps enabled or not (R520, R530). -/
theorem State.raise_frame (s : State) (trap : Trap) :
    s.raise trap =
      { s.settleLate with
        globals := (s.raise trap).globals
        windows := (s.raise trap).windows
        psr := { s.settleLate.psr with et := false, ps := s.settleLate.psr.s, s := true, cwp := s.settleLate.psr.cwp - 1#3 }
        tbr := { s.settleLate.tbr with tt := trap.tt }
        pc := s.settleLate.tbr.tba ++ trap.tt ++ 0#4
        npc := s.settleLate.tbr.tba ++ trap.tt ++ 0#4 + 4#32
        annul := false
        prev := .other
        mode := s.modeAfterTrap
        pfcSkip := s.pfcSkip || s.pins.flowEnabled
        recent := []
        fpu := (s.raise trap).fpu
        cp := (s.raise trap).cp } := rfl

/-- With traps enabled the mode is kept. -/
theorem State.modeAfterTrap_of_et {s : State} (h : s.psr.et = true) : s.modeAfterTrap = s.settleLate.mode := by
  simp [State.modeAfterTrap, h]

/-! ### The unit whose exception is taken -/

theorem State.raise_fpu (s : State) (trap : Trap) :
    (s.raise trap).fpu = if trap = .fpException then s.fpu.acknowledge else s.fpu := rfl

theorem State.raise_cp (s : State) (trap : Trap) :
    (s.raise trap).cp = if trap = .cpException then s.cp.acknowledge else s.cp := rfl

/-- The unit is in exception mode from then on if its queue holds an entry (R556; log 30). -/
theorem CoUnit.acknowledge_eq (x : CoUnit) :
    x.acknowledge = { x with excPending := false, excMode := decide (x.queue ≠ []) } := by
  cases h : x.queue <;> simp [CoUnit.acknowledge, h]

/-- Settles O52: the counters saved, the frame of a trap, and the unit it acknowledges. -/
theorem trapEntrySavesAndVectors : Obligations.TrapEntrySavesAndVectors := by
  intro s trap het t s' window
  refine ⟨s.settleLate_of_nil, ?_, ?_, fun w n h17 h18 => ?_, fun p => ?_, ?_, fun h => ?_, fun h => ?_, fun h => ?_,
    fun h => ?_⟩
  · rw [s.raise_regIn, s.saveCounters_pc, s.savedPcs_eq]
  · rw [s.raise_regIn, s.saveCounters_npc, s.savedPcs_eq]
  · rw [s.raise_regIn, s.saveCounters_other h17 h18]
  · rw [s.raise_physWritten, s.countsWritten_saveCounters _ p]
  · have hframe := s.raise_frame trap
    rw [State.modeAfterTrap_of_et het] at hframe
    exact hframe
  · rw [s.raise_fpu, if_neg h]
  · rw [s.raise_cp, if_neg h]
  · rw [s.raise_fpu, if_pos h, CoUnit.acknowledge_eq]
  · rw [s.raise_cp, if_pos h, CoUnit.acknowledge_eq]

/-! ## Return from a trap -/

/-- An address is misaligned for a word exactly when it is no word address (20_memory.md R110). -/
theorem misaligned_word_iff (a : Word) : misaligned .word a = true ↔ a.toNat % 4 ≠ 0 := by
  rw [Ne, ← wordAligned_iff]
  simp [misaligned]

/-- The first condition that holds decides (60_exceptions.md R542). -/
theorem State.attempt_cons (s : State) (c : Bool) (trap : Trap) (rest : List (Bool × Trap)) (done : State) :
    s.attempt ((c, trap) :: rest) done = if c = true then s.raise trap else s.attempt rest done := by
  cases c <;> rfl

theorem State.attempt_nil (s done : State) : s.attempt [] done = done := rfl

/-- The traps of RETT one after the other, and the return when there is none (43_control_transfer.md R388; log 20). -/
theorem exec_rett (rs1 : RegNum) (src : Operand2) (s : State) :
    exec (.rett rs1 src) s = .next (
      if s.psr.et = true then s.raise .illegalInstruction
      else if s.psr.s = false then s.raise .privilegedInstruction
      else if s.invalidWindow (s.psr.cwp + 1#3) = true then s.raise .windowUnderflow
      else if (s.ea rs1 src).toNat % 4 ≠ 0 then s.raise .notAligned
      else s.returnFromTrap (s.ea rs1 src)) := by
  show Host.Outcome.next (s.attempt (s.rettTraps (s.ea rs1 src)) (s.returnFromTrap (s.ea rs1 src))) = _
  simp only [State.rettTraps, State.attempt_cons, State.attempt_nil, misaligned_word_iff, Bool.not_eq_true']

/-- The fields the return changes, in a write of the PSR that is still late too (R388; log 22). -/
theorem State.returnFromTrap_frame (s : State) (target : Word) :
    s.returnFromTrap target =
      { s with
        psr := { s.psr with et := true, s := s.psr.ps, cwp := s.psr.cwp + 1#3 }
        late := s.late.map (LateWrite.afterPsr fun p => { p with et := true, s := s.psr.ps, cwp := s.psr.cwp + 1#3 })
        pc := s.npc, npc := (s.returnFromTrap target).npc
        prev := .other, pfcSkip := s.pfcSkip || s.pins.flowEnabled, recent := [], free := (s.returnFromTrap target).free } := rfl

theorem State.returnFromTrap_npc (s : State) (target : Word) :
    (s.returnFromTrap target).npc = (s.transfer target).npc := rfl

/-- A transfer that is not the second of a couple goes to its target (R362, R365). -/
theorem State.transfer_npc_of_ne {s : State} (target : Word) (h : s.prev ≠ .condBranch) : (s.transfer target).npc = target := by
  simp [State.transfer, h]

/-- Settles O34: the conditions of RETT are tried in their order, and a trap with traps disabled ends in error mode. -/
theorem rettReturnsOrTraps : Obligations.RettReturnsOrTraps := by
  intro s rs1 src target invalid
  have htarget : target = s.ea rs1 src := rfl
  have hinvalid : invalid = s.invalidWindow (s.psr.cwp + 1#3) := rfl
  rw [exec_rett, ← htarget, ← hinvalid]
  clear_value target invalid
  refine ⟨fun het hs hwin halign => ?_, fun het => ?_, fun het hs => ?_, fun het hs hwin => ?_, fun het hs hwin halign => ?_⟩
  · refine ⟨s.returnFromTrap target, ?_, s.returnFromTrap_frame target, fun hp => ?_, fun _ => ?_⟩
    · simp [het, hs, hwin, halign]
    · rw [s.returnFromTrap_npc, State.transfer_npc_of_ne target hp]
    · rw [s.returnFromTrap_npc]
      exact s.wordAligned_transfer_npc ((wordAligned_iff target).2 halign)
  · rw [if_pos het]
  · exact ⟨by simp [het, hs], s.raise_mode_of_not_et _ het⟩
  · exact ⟨by simp [het, hs, hwin], s.raise_mode_of_not_et _ het⟩
  · exact ⟨by simp [het, hs, hwin, halign], s.raise_mode_of_not_et _ het⟩

end Sys2Proof.Machine

/-! The statements on the encoding (spec 30_encoding.md): decoding undoes encoding, and encoding undoes decoding up to the bits that
decoding ignores (R157). What a format holds is read back field by field, and every row of the opcode maps is one of a few forms. -/

namespace Sys2Proof

/-! ## Reading the operands of format 3 back -/

section
variable (op : BitVec 2) (rd : RegNum) (op3 : BitVec 6) (rs1 : RegNum)

theorem operand2Field_format3 (src : Operand2) : operand2Field (format3 op rd op3 rs1 (operand2Low src)) = src := by
  rw [operand2Field, iField_low, simm13Field_low, rs2Field_low, low_format3]
  cases src with
  | reg rs2 =>
    have hi : (operand2Low (.reg rs2)).getLsbD 13 = false := by simp only [operand2Low, BitVec.getLsbD_append]; simp
    rw [hi]
    exact congrArg Operand2.reg BitVec.extractLsb'_append_eq_right
  | imm simm13 =>
    have hi : (operand2Low (.imm simm13)).getLsbD 13 = true := by simp only [operand2Low, BitVec.getLsbD_append]; simp
    rw [hi]
    exact congrArg Operand2.imm BitVec.extractLsb'_append_eq_right

theorem shiftField_format3 (cnt : ShiftSource) : shiftField (format3 op rd op3 rs1 (shiftLow cnt)) = cnt := by
  rw [shiftField, iField_low, rs2Field_low, low_format3]
  cases cnt with
  | reg rs2 =>
    have hi : (shiftLow (.reg rs2)).getLsbD 13 = false := by simp only [shiftLow, BitVec.getLsbD_append]; simp
    rw [hi]
    exact congrArg ShiftSource.reg BitVec.extractLsb'_append_eq_right
  | imm shcnt =>
    have hi : (shiftLow (.imm shcnt)).getLsbD 13 = true := by simp only [shiftLow, BitVec.getLsbD_append]; simp
    rw [hi]
    exact congrArg ShiftSource.imm BitVec.extractLsb'_append_eq_right

theorem altField_format3 (src : AltSource) : altField (format3 op rd op3 rs1 (altLow src)) = src := by
  rw [altField, iField_low, simm13Field_low, asiField_low, rs2Field_low, low_format3]
  cases src with
  | reg asi rs2 =>
    have hi : (altLow (.reg asi rs2)).getLsbD 13 = false := by simp only [altLow, BitVec.getLsbD_append]; simp
    have hasi : (altLow (.reg asi rs2)).extractLsb' 5 8 = asi :=
      (BitVec.extractLsb'_append_eq_of_le (by rfl)).trans BitVec.extractLsb'_append_eq_right
    rw [hi, hasi]
    exact congrArg (AltSource.reg asi) BitVec.extractLsb'_append_eq_right
  | imm low13 =>
    have hi : (altLow (.imm low13)).getLsbD 13 = true := by simp only [altLow, BitVec.getLsbD_append]; simp
    rw [hi]
    exact congrArg AltSource.imm BitVec.extractLsb'_append_eq_right

theorem opfField_format3 (opf : BitVec 9) (rs2 : RegNum) : opfField (format3 op rd op3 rs1 (opfLow opf rs2)) = opf := by
  rw [opfField_low, low_format3]
  exact BitVec.extractLsb'_append_eq_left

theorem rs2Field_format3 (opf : BitVec 9) (rs2 : RegNum) : rs2Field (format3 op rd op3 rs1 (opfLow opf rs2)) = rs2 := by
  rw [rs2Field_low, low_format3]
  exact BitVec.extractLsb'_append_eq_right

end

/-! ## Decoding a word of format 1 or 2 -/

theorem decode_format1 (disp30 : BitVec 30) : decode (format1 disp30) = .call disp30 := by
  rw [decode, opField_format1, disp30Field_format1]
  rfl

/-- A row of the map of op2 (R154), read in a word of format 2. -/
theorem decode_format2_of_op2 {op2 : BitVec 3} {f : Word → Instr} (hrow : ∀ w, op2Field w = op2 → decodeOp00 w = f w)
    (rd : RegNum) (imm22 : BitVec 22) : decode (format2 rd op2 imm22) = f (format2 rd op2 imm22) := by
  rw [decode, opField_format2]
  exact hrow _ (op2Field_format2 ..)

theorem decode_format2_reserved {op2 : BitVec 3} {i : Instr} (hrow : ∀ w, op2Field w = op2 → decodeOp00 w = i)
    (rd : RegNum) (imm22 : BitVec 22) : decode (format2 rd op2 imm22) = i :=
  decode_format2_of_op2 (f := fun _ => i) hrow rd imm22

theorem decodeOp00_unimp (w : Word) (h : op2Field w = 0b000#3) : decodeOp00 w = .unimp (imm22Field w) := by
  rw [decodeOp00, h]
  rfl
theorem decodeOp00_bicc (w : Word) (h : op2Field w = 0b010#3) :
    decodeOp00 w = decodeBicc (condField w) (aField w) (imm22Field w) := by rw [decodeOp00, h]; rfl
theorem decodeOp00_sethi (w : Word) (h : op2Field w = 0b100#3) : decodeOp00 w = .sethi (rdField w) (imm22Field w) := by
  rw [decodeOp00, h]
  rfl
theorem decodeOp00_fbfcc (w : Word) (h : op2Field w = 0b110#3) :
    decodeOp00 w = decodeFBfcc (condField w) (aField w) (imm22Field w) := by rw [decodeOp00, h]; rfl
theorem decodeOp00_cbccc (w : Word) (h : op2Field w = 0b111#3) :
    decodeOp00 w = decodeCBccc (condField w) (aField w) (imm22Field w) := by rw [decodeOp00, h]; rfl

theorem decode_unimp (rd : RegNum) (const22 : BitVec 22) : decode (format2 rd 0b000#3 const22) = .unimp const22 := by
  rw [decode_format2_of_op2 decodeOp00_unimp, imm22Field_format2]

theorem decode_sethi (rd : RegNum) (imm22 : BitVec 22) : decode (format2 rd 0b100#3 imm22) = .sethi rd imm22 := by
  rw [decode_format2_of_op2 decodeOp00_sethi, rdField_format2, imm22Field_format2]

theorem decode_branchWord {op2 : BitVec 3} {f : BitVec 4 → Bool → BitVec 22 → Instr}
    (hrow : ∀ w, op2Field w = op2 → decodeOp00 w = f (condField w) (aField w) (imm22Field w)) (a : Bool) (cond : BitVec 4)
    (disp22 : BitVec 22) : decode (branchWord a cond op2 disp22) = f cond a disp22 := by
  have himm : imm22Field (branchWord a cond op2 disp22) = disp22 := imm22Field_format2 ..
  have hdecode := decode_format2_of_op2 hrow (BitVec.ofBool a ++ cond) disp22
  rw [← branchWord, condField_branchWord, aField_branchWord, himm] at hdecode
  exact hdecode

/-! ## Decoding a word of format 3 -/

/-- In the maps of op3 (R165, R166) the row of `op` and `op3` reads a word as `f` does. -/
def DecodeRow (op : BitVec 2) (op3 : BitVec 6) (f : Word → Instr) : Prop :=
  ∀ w, opField w = op → op3Field w = op3 → decode w = f w

theorem decodeRow_op10 {op3 : BitVec 6} {f : Word → Instr} (h : ∀ w, op3Field w = op3 → decodeOp10 w = f w) :
    DecodeRow 0b10#2 op3 f := fun w hop hop3 => by
  rw [decode, hop]
  exact h w hop3

theorem decodeRow_op11 {op3 : BitVec 6} {f : Word → Instr} (h : ∀ w, op3Field w = op3 → decodeOp11 w = f w) :
    DecodeRow 0b11#2 op3 f := fun w hop hop3 => by
  rw [decode, hop]
  exact h w hop3

theorem decodeRow_fpop1 :
    DecodeRow 0b10#2 0b110100#6 fun w => decodeFPop1 (rdField w) (rs1Field w) (opfField w) (rs2Field w) :=
  decodeRow_op10 fun w h => by rw [decodeOp10, h]; rfl

theorem decodeRow_fpop2 :
    DecodeRow 0b10#2 0b110101#6 fun w => decodeFPop2 (rdField w) (rs1Field w) (opfField w) (rs2Field w) :=
  decodeRow_op10 fun w h => by rw [decodeOp10, h]; rfl

theorem decodeRow_ticc : DecodeRow 0b10#2 0b111010#6 fun w => decodeTicc (condField w) (rs1Field w) (operand2Field w) :=
  decodeRow_op10 fun w h => by rw [decodeOp10, h]; rfl

namespace DecodeRow

variable {op : BitVec 2} {op3 : BitVec 6}

theorem decode_format3 {f : Word → Instr} (h : DecodeRow op op3 f) (rd rs1 : RegNum) (low : BitVec 14) :
    decode (format3 op rd op3 rs1 low) = f (format3 op rd op3 rs1 low) :=
  h _ (opField_format3 ..) (op3Field_format3 ..)

theorem decode_reserved {i : Instr} (h : DecodeRow op op3 fun _ => i) (rd rs1 : RegNum) (low : BitVec 14) :
    decode (format3 op rd op3 rs1 low) = i :=
  decode_format3 (f := fun _ => i) h rd rs1 low

theorem decode_operand2 {f : RegNum → RegNum → Operand2 → Instr}
    (h : DecodeRow op op3 fun w => f (rdField w) (rs1Field w) (operand2Field w)) (rd rs1 : RegNum) (src : Operand2) :
    decode (format3 op rd op3 rs1 (operand2Low src)) = f rd rs1 src := by
  rw [h.decode_format3, rdField_format3, rs1Field_format3, operand2Field_format3]

theorem decode_operand2_of_rd_ignored {f : RegNum → Operand2 → Instr}
    (h : DecodeRow op op3 fun w => f (rs1Field w) (operand2Field w)) (rs1 : RegNum) (src : Operand2) :
    decode (format3 op 0#5 op3 rs1 (operand2Low src)) = f rs1 src :=
  decode_operand2 (f := fun _ => f) h 0#5 rs1 src

theorem decode_alternate {f : RegNum → RegNum → AltSource → Instr}
    (h : DecodeRow op op3 fun w => f (rdField w) (rs1Field w) (altField w)) (rd rs1 : RegNum) (src : AltSource) :
    decode (format3 op rd op3 rs1 (altLow src)) = f rd rs1 src := by
  rw [h.decode_format3, rdField_format3, rs1Field_format3, altField_format3]

theorem decode_shift {f : RegNum → RegNum → ShiftSource → Instr}
    (h : DecodeRow op op3 fun w => f (rdField w) (rs1Field w) (shiftField w)) (rd rs1 : RegNum) (cnt : ShiftSource) :
    decode (format3 op rd op3 rs1 (shiftLow cnt)) = f rd rs1 cnt := by
  rw [h.decode_format3, rdField_format3, rs1Field_format3, shiftField_format3]

theorem decode_rd {f : RegNum → Instr} (h : DecodeRow op op3 fun w => f (rdField w)) (rd : RegNum) :
    decode (format3 op rd op3 0#5 0#14) = f rd := by
  rw [h.decode_format3, rdField_format3]

theorem decode_opf {f : RegNum → RegNum → BitVec 9 → RegNum → Instr}
    (h : DecodeRow op op3 fun w => f (rdField w) (rs1Field w) (opfField w) (rs2Field w)) (rd rs1 : RegNum) (opf : BitVec 9)
    (rs2 : RegNum) : decode (format3 op rd op3 rs1 (opfLow opf rs2)) = f rd rs1 opf rs2 := by
  rw [h.decode_format3, rdField_format3, rs1Field_format3, opfField_format3, rs2Field_format3]

theorem decode_cond {f : BitVec 4 → RegNum → Operand2 → Instr}
    (h : DecodeRow op op3 fun w => f (condField w) (rs1Field w) (operand2Field w)) (cond : BitVec 4) (rs1 : RegNum)
    (src : Operand2) : decode (format3 op (0#1 ++ cond) op3 rs1 (operand2Low src)) = f cond rs1 src := by
  have hcond : (0#1 ++ cond).extractLsb' 0 4 = cond := BitVec.extractLsb'_append_eq_right
  rw [h.decode_format3, condField_format3, hcond, rs1Field_format3, operand2Field_format3]

end DecodeRow

/-- A reserved opf is none of the rows of R168. -/
theorem decodeFPop1_of_reserved {opf : BitVec 9} (h : fpop1Assigned.contains opf = false) (rd rs1 rs2 : RegNum) :
    decodeFPop1 rd rs1 opf rs2 = .fpop1Reserved rd rs1 opf rs2 := by
  unfold decodeFPop1
  split
  case h_31 => rfl
  all_goals exact absurd h (by decide)

/-- A reserved opf is none of the rows of R169. -/
theorem decodeFPop2_of_reserved {opf : BitVec 9} (h : fpop2Assigned.contains opf = false) (rd rs1 rs2 : RegNum) :
    decodeFPop2 rd rs1 opf rs2 = .fpop2Reserved rd rs1 opf rs2 := by
  unfold decodeFPop2
  split
  case h_7 => rfl
  all_goals exact absurd h (by decide)

/-! ## Decoding undoes encoding -/

/-- Each instruction is a row of the maps, of one form with the others of its group. -/
theorem decode_encode (i : Instr) (h : WellFormed i = true) : decode (encode i) = i := by
  cases i with
  | ld rd rs1 src | ldub rd rs1 src | lduh rd rs1 src | ldd rd rs1 src | st rd rs1 src | stb rd rs1 src
  | sth rd rs1 src | std rd rs1 src | ldsb rd rs1 src | ldsh rd rs1 src | ldstub rd rs1 src | swap rd rs1 src
  | ldf rd rs1 src | lddf rd rs1 src | stf rd rs1 src | stdf rd rs1 src | ldc rd rs1 src | lddc rd rs1 src
  | stc rd rs1 src | stdc rd rs1 src =>
    exact DecodeRow.decode_operand2 (decodeRow_op11 fun w h => by rw [decodeOp11, h]; rfl) rd rs1 src
  | lda rd rs1 src | lduba rd rs1 src | lduha rd rs1 src | ldda rd rs1 src | sta rd rs1 src | stba rd rs1 src
  | stha rd rs1 src | stda rd rs1 src | ldsba rd rs1 src | ldsha rd rs1 src | ldstuba rd rs1 src | swapa rd rs1 src =>
    exact DecodeRow.decode_alternate (decodeRow_op11 fun w h => by rw [decodeOp11, h]; rfl) rd rs1 src
  | ldfsr rs1 src | stfsr rs1 src | stdfq rs1 src | ldcsr rs1 src | stcsr rs1 src | stdcq rs1 src =>
    exact DecodeRow.decode_operand2_of_rd_ignored (decodeRow_op11 fun w h => by rw [decodeOp11, h]; rfl) rs1 src
  | add rd rs1 src | and rd rs1 src | or rd rs1 src | xor rd rs1 src | sub rd rs1 src | andn rd rs1 src
  | orn rd rs1 src | xnor rd rs1 src | addx rd rs1 src | subx rd rs1 src | addcc rd rs1 src | andcc rd rs1 src
  | orcc rd rs1 src | xorcc rd rs1 src | subcc rd rs1 src | andncc rd rs1 src | orncc rd rs1 src | xnorcc rd rs1 src
  | addxcc rd rs1 src | subxcc rd rs1 src | taddcc rd rs1 src | tsubcc rd rs1 src | taddcctv rd rs1 src
  | tsubcctv rd rs1 src | mulscc rd rs1 src | jmpl rd rs1 src | save rd rs1 src | restore rd rs1 src =>
    exact DecodeRow.decode_operand2 (decodeRow_op10 fun w h => by rw [decodeOp10, h]; rfl) rd rs1 src
  | sll rd rs1 cnt | srl rd rs1 cnt | sra rd rs1 cnt =>
    exact DecodeRow.decode_shift (decodeRow_op10 fun w h => by rw [decodeOp10, h]; rfl) rd rs1 cnt
  | sethi rd imm22 =>
    exact decode_sethi rd imm22
  | bn a d | be a d | ble a d | bl a d | bleu a d | bcs a d | bneg a d | bvs a d | ba a d | bne a d | bg a d | bge a d
  | bgu a d | bcc a d | bpos a d | bvc a d =>
    exact decode_branchWord decodeOp00_bicc a _ d
  | fbn a d | fbne a d | fblg a d | fbul a d | fbl a d | fbug a d | fbg a d | fbu a d | fba a d | fbe a d | fbue a d
  | fbge a d | fbuge a d | fble a d | fbule a d | fbo a d =>
    exact decode_branchWord decodeOp00_fbfcc a _ d
  | cbn a d | cb123 a d | cb12 a d | cb13 a d | cb1 a d | cb23 a d | cb2 a d | cb3 a d | cba a d | cb0 a d | cb03 a d
  | cb02 a d | cb023 a d | cb01 a d | cb013 a d | cb012 a d =>
    exact decode_branchWord decodeOp00_cbccc a _ d
  | call disp30 =>
    exact decode_format1 disp30
  | rett rs1 src | wry rs1 src | wrpsr rs1 src | wrwim rs1 src | wrtbr rs1 src | iflush rs1 src =>
    exact DecodeRow.decode_operand2_of_rd_ignored (decodeRow_op10 fun w h => by rw [decodeOp10, h]; rfl) rs1 src
  | tn rs1 src | te rs1 src | tle rs1 src | tl rs1 src | tleu rs1 src | tcs rs1 src | tneg rs1 src | tvs rs1 src
  | ta rs1 src | tne rs1 src | tg rs1 src | tge rs1 src | tgu rs1 src | tcc rs1 src | tpos rs1 src | tvc rs1 src =>
    exact decodeRow_ticc.decode_cond _ rs1 src
  | rdy rd | rdpsr rd | rdwim rd | rdtbr rd =>
    exact DecodeRow.decode_rd (decodeRow_op10 fun w h => by rw [decodeOp10, h]; rfl) rd
  | fmovs rd rs2 | fnegs rd rs2 | fabss rd rs2 | fsqrts rd rs2 | fsqrtd rd rs2 | fsqrtx rd rs2 | fitos rd rs2
  | fdtos rd rs2 | fxtos rd rs2 | fitod rd rs2 | fstod rd rs2 | fxtod rd rs2 | fitox rd rs2 | fstox rd rs2
  | fdtox rd rs2 | fstoi rd rs2 | fdtoi rd rs2 | fxtoi rd rs2 =>
    exact decodeRow_fpop1.decode_opf rd _ _ rs2
  | fadds rd rs1 rs2 | faddd rd rs1 rs2 | faddx rd rs1 rs2 | fsubs rd rs1 rs2 | fsubd rd rs1 rs2 | fsubx rd rs1 rs2
  | fmuls rd rs1 rs2 | fmuld rd rs1 rs2 | fmulx rd rs1 rs2 | fdivs rd rs1 rs2 | fdivd rd rs1 rs2 | fdivx rd rs1 rs2 =>
    exact decodeRow_fpop1.decode_opf rd rs1 _ rs2
  | fcmps rs1 rs2 | fcmpd rs1 rs2 | fcmpx rs1 rs2 | fcmpes rs1 rs2 | fcmped rs1 rs2 | fcmpex rs1 rs2 =>
    exact decodeRow_fpop2.decode_opf _ rs1 _ rs2
  | fpop1Reserved rd rs1 opf rs2 =>
    exact (decodeRow_fpop1.decode_opf rd rs1 opf rs2).trans (decodeFPop1_of_reserved (by simpa [WellFormed] using h) rd rs1 rs2)
  | fpop2Reserved rd rs1 opf rs2 =>
    exact (decodeRow_fpop2.decode_opf rd rs1 opf rs2).trans (decodeFPop2_of_reserved (by simpa [WellFormed] using h) rd rs1 rs2)
  | cpop1 rd rs1 opc rs2 | cpop2 rd rs1 opc rs2 =>
    exact DecodeRow.decode_opf (decodeRow_op10 fun w h => by rw [decodeOp10, h]; rfl) rd rs1 opc rs2
  | unimp const22 =>
    exact decode_unimp 0#5 const22
  | reservedOp00_001 | reservedOp00_011 | reservedOp00_101 =>
    exact decode_format2_reserved (fun w h => by rw [decodeOp00, h]; rfl) _ _
  | reservedOp10_001001 | reservedOp10_001010 | reservedOp10_001011 | reservedOp10_001101 | reservedOp10_001110
  | reservedOp10_001111 | reservedOp10_011001 | reservedOp10_011010 | reservedOp10_011011 | reservedOp10_011101
  | reservedOp10_011110 | reservedOp10_011111 | reservedOp10_101100 | reservedOp10_101101 | reservedOp10_101110
  | reservedOp10_101111 | reservedOp10_111110 | reservedOp10_111111 =>
    exact DecodeRow.decode_reserved (decodeRow_op10 fun w h => by rw [decodeOp10, h]; rfl) _ _ _
  | reservedOp11_001000 | reservedOp11_001011 | reservedOp11_001100 | reservedOp11_001110 | reservedOp11_011000
  | reservedOp11_011011 | reservedOp11_011100 | reservedOp11_011110 | reservedOp11_100010 | reservedOp11_101000
  | reservedOp11_101001 | reservedOp11_101010 | reservedOp11_101011 | reservedOp11_101100 | reservedOp11_101101
  | reservedOp11_101110 | reservedOp11_101111 | reservedOp11_110010 | reservedOp11_111000 | reservedOp11_111001
  | reservedOp11_111010 | reservedOp11_111011 | reservedOp11_111100 | reservedOp11_111101 | reservedOp11_111110
  | reservedOp11_111111 =>
    exact DecodeRow.decode_reserved (decodeRow_op11 fun w h => by rw [decodeOp11, h]; rfl) _ _ _

/-- Settles O3: `decode_encode`. -/
theorem decodeInvertsEncode : Obligations.DecodeInvertsEncode := decode_encode

end Sys2Proof

/-! The statement on every word (spec 30_encoding.md R155 to R157). The encoder writes 0 where decoding ignores, so that encoding
what a word decodes to clears the word's ignored bits (`encode_decode`). Words that differ in nothing else ignore the same bits, so
they decode to instructions of one encoding, and the encoding determines the instruction (`decode_encode`). -/

namespace Sys2Proof

open Machine

/-! ## The four values of op -/

theorem opField_cases (w : Word) : opField w = 0b00#2 ∨ opField w = 0b01#2 ∨ opField w = 0b10#2 ∨ opField w = 0b11#2 := by
  generalize opField w = x
  revert x
  decide

theorem decode_of_op00 {w : Word} (hop : opField w = 0b00#2) : decode w = decodeOp00 w := by
  rw [decode, hop]
  rfl

theorem decode_of_op01 {w : Word} (hop : opField w = 0b01#2) : decode w = .call (disp30Field w) := by
  rw [decode, hop]
  rfl

theorem decode_of_op10 {w : Word} (hop : opField w = 0b10#2) : decode w = decodeOp10 w := by
  rw [decode, hop]
  rfl

theorem decode_of_op11 {w : Word} (hop : opField w = 0b11#2) : decode w = decodeOp11 w := by
  rw [decode, hop]
  rfl

theorem ignoredBits_of_op01 {w : Word} (hop : opField w = 0b01#2) : ignoredBits w = 0#32 := by
  simp [ignoredBits, hop]

theorem ignoredBits_of_op10 {w : Word} (hop : opField w = 0b10#2) : ignoredBits w = ignoredOp10 w := by
  simp [ignoredBits, hop]

theorem ignoredBits_of_op11 {w : Word} (hop : opField w = 0b11#2) : ignoredBits w = ignoredOp11 w := by
  simp [ignoredBits, hop]

/-! ## A word is its fields -/

theorem format3_fields (w : Word) :
    format3 (opField w) (rdField w) (op3Field w) (rs1Field w) (w.extractLsb' 0 14) = w := by
  rw [format3, opField, rdField, op3Field, rs1Field,
    BitVec.extractLsb'_append_extractLsb'_eq_extractLsb' (by rfl : 30 = 25 + 5),
    BitVec.extractLsb'_append_extractLsb'_eq_extractLsb' (by rfl : 25 = 19 + 6),
    BitVec.extractLsb'_append_extractLsb'_eq_extractLsb' (by rfl : 19 = 14 + 5),
    BitVec.extractLsb'_append_extractLsb'_eq_extractLsb' (by rfl : 14 = 0 + 14)]
  exact BitVec.extractLsb'_eq_self

theorem format2_fields {w : Word} (hop : opField w = 0b00#2) : format2 (rdField w) (op2Field w) (imm22Field w) = w := by
  rw [format2, ← hop, opField, rdField, op2Field, imm22Field,
    BitVec.extractLsb'_append_extractLsb'_eq_extractLsb' (by rfl : 30 = 25 + 5),
    BitVec.extractLsb'_append_extractLsb'_eq_extractLsb' (by rfl : 25 = 22 + 3),
    BitVec.extractLsb'_append_extractLsb'_eq_extractLsb' (by rfl : 22 = 0 + 22)]
  exact BitVec.extractLsb'_eq_self

theorem format1_fields {w : Word} (hop : opField w = 0b01#2) : format1 (disp30Field w) = w := by
  rw [format1, ← hop, opField, disp30Field,
    BitVec.extractLsb'_append_extractLsb'_eq_extractLsb' (by rfl : 30 = 0 + 30)]
  exact BitVec.extractLsb'_eq_self

/-- A bit is a field of length 1. -/
theorem ofBool_getLsbD (w : Word) (n : Nat) : BitVec.ofBool (w.getLsbD n) = w.extractLsb' n 1 := by
  apply BitVec.eq_of_getLsbD_eq
  intro i hi
  obtain rfl : i = 0 := by omega
  simp

theorem ofBool_append_condField (w : Word) : BitVec.ofBool (aField w) ++ condField w = rdField w := by
  rw [aField, ofBool_getLsbD, condField, BitVec.extractLsb'_append_extractLsb'_eq_extractLsb' (by rfl : 29 = 25 + 4)]
  rfl

theorem ofBool_append_simm13Field (w : Word) : BitVec.ofBool (iField w) ++ simm13Field w = w.extractLsb' 0 14 := by
  rw [iField, ofBool_getLsbD, simm13Field, BitVec.extractLsb'_append_extractLsb'_eq_extractLsb' (by rfl : 13 = 0 + 13)]

theorem ofBool_append_asiField (w : Word) : BitVec.ofBool (iField w) ++ asiField w = opfField w := by
  rw [iField, ofBool_getLsbD, asiField, BitVec.extractLsb'_append_extractLsb'_eq_extractLsb' (by rfl : 13 = 5 + 8)]
  rfl

theorem opfLow_fields (w : Word) : opfLow (opfField w) (rs2Field w) = w.extractLsb' 0 14 := by
  rw [opfLow, opfField, rs2Field, BitVec.extractLsb'_append_extractLsb'_eq_extractLsb' (by rfl : 5 = 0 + 5)]

theorem altLow_altField (w : Word) : altLow (altField w) = w.extractLsb' 0 14 := by
  cases hi : iField w with
  | false =>
    rw [altField, hi, ← opfLow_fields, ← ofBool_append_asiField, hi]
    rfl
  | true =>
    rw [altField, hi, ← ofBool_append_simm13Field, hi]
    rfl

/-! ## Clearing the bits of a field -/

theorem format3_and (op op' : BitVec 2) (rd rd' : RegNum) (op3 op3' : BitVec 6) (rs1 rs1' : RegNum) (low low' : BitVec 14) :
    format3 op rd op3 rs1 low &&& format3 op' rd' op3' rs1' low' =
      format3 (op &&& op') (rd &&& rd') (op3 &&& op3') (rs1 &&& rs1') (low &&& low') := by
  apply BitVec.eq_of_getLsbD_eq
  intro i hi
  simp only [format3, BitVec.getLsbD_and, BitVec.getLsbD_append]
  split_ifs <;> rfl

theorem format2_and (rd rd' : RegNum) (op2 op2' : BitVec 3) (imm22 imm22' : BitVec 22) :
    format2 rd op2 imm22 &&& (0b11#2 ++ rd' ++ op2' ++ imm22' : Word) =
      format2 (rd &&& rd') (op2 &&& op2') (imm22 &&& imm22') := by
  apply BitVec.eq_of_getLsbD_eq
  intro i hi
  simp only [format2, BitVec.getLsbD_and, BitVec.getLsbD_append]
  split_ifs <;> simp

/-- A mask that keeps op and op3, and of rd, rs1 and the low half what its arguments keep. -/
def keepFormat3 (rd rs1 : RegNum) (low : BitVec 14) : Word := format3 (.allOnes 2) rd (.allOnes 6) rs1 low

theorem format3_and_keep (op : BitVec 2) (rd rd' : RegNum) (op3 : BitVec 6) (rs1 rs1' : RegNum) (low low' : BitVec 14) :
    format3 op rd op3 rs1 low &&& keepFormat3 rd' rs1' low' = format3 op (rd &&& rd') op3 (rs1 &&& rs1') (low &&& low') := by
  rw [keepFormat3, format3_and, BitVec.and_allOnes, BitVec.and_allOnes]

theorem and_keepFormat3 (w : Word) (rd' rs1' : RegNum) (low' : BitVec 14) :
    w &&& keepFormat3 rd' rs1' low' =
      format3 (opField w) (rdField w &&& rd') (op3Field w) (rs1Field w &&& rs1') (w.extractLsb' 0 14 &&& low') := by
  rw [← format3_and_keep, format3_fields]

/-- The mask of the low half that clears bits 12:5. -/
def keepLow : BitVec 14 := opfLow (1#1 ++ 0#8) (.allOnes 5)

theorem low_and_keepLow (w : Word) :
    w.extractLsb' 0 14 &&& keepLow = opfLow (BitVec.ofBool (iField w) ++ 0#8) (rs2Field w) := by
  have hopf : (BitVec.ofBool (iField w) ++ asiField w) &&& (1#1 ++ 0#8) = BitVec.ofBool (iField w) ++ 0#8 := by
    rw [BitVec.and_append, BitVec.and_zero]
    exact congrArg (· ++ 0#8) BitVec.and_allOnes
  rw [← opfLow_fields, ← ofBool_append_asiField, ← hopf, keepLow]
  exact BitVec.and_append.trans (by rw [BitVec.and_allOnes]; rfl)

theorem format3_and_not_rdBits (op : BitVec 2) (rd : RegNum) (op3 : BitVec 6) (rs1 : RegNum) (low : BitVec 14) :
    format3 op rd op3 rs1 low &&& ~~~rdBits = format3 op 0#5 op3 rs1 low := by
  have hmask : ~~~rdBits = keepFormat3 0#5 (.allOnes 5) (.allOnes 14) := rfl
  rw [hmask, format3_and_keep, BitVec.and_zero, BitVec.and_allOnes, BitVec.and_allOnes]

theorem and_not_zero (w : Word) : w &&& ~~~0#32 = w := BitVec.and_allOnes

/-- Clearing more bits of a word that has some cleared. -/
theorem and_not_or (w m m' : Word) : w &&& ~~~(m ||| m') = (w &&& ~~~m') &&& ~~~m := by
  rw [BitVec.not_or, BitVec.and_comm (~~~m), BitVec.and_assoc]

/-! ## A word of format 2 without its ignored bits -/

theorem branchWord_fields {w : Word} (hop : opField w = 0b00#2) :
    branchWord (aField w) (condField w) (op2Field w) (imm22Field w) = w := by
  rw [branchWord, ofBool_append_condField, format2_fields hop]

theorem format2_rdBits {w : Word} (hop : opField w = 0b00#2) :
    format2 0#5 (op2Field w) (imm22Field w) = w &&& ~~~rdBits := by
  have h := format2_and (rdField w) 0#5 (op2Field w) (.allOnes 3) (imm22Field w) (.allOnes 22)
  rw [format2_fields hop, BitVec.and_zero, BitVec.and_allOnes, BitVec.and_allOnes] at h
  exact h.symm

theorem format2_reserved {w : Word} (hop : opField w = 0b00#2) :
    format2 0#5 (op2Field w) 0#22 = w &&& ~~~0x3E3FFFFF#32 := by
  have h := format2_and (rdField w) 0#5 (op2Field w) (.allOnes 3) (imm22Field w) 0#22
  rw [format2_fields hop, BitVec.and_zero, BitVec.and_zero, BitVec.and_allOnes] at h
  exact h.symm

/-! ## A word of format 3 without its ignored bits -/

section
variable {w : Word} {op : BitVec 2} (hop : opField w = op)
include hop

theorem format3_opf : format3 op (rdField w) (op3Field w) (rs1Field w) (opfLow (opfField w) (rs2Field w)) = w := by
  rw [opfLow_fields, ← hop, format3_fields]

theorem format3_alternate : format3 op (rdField w) (op3Field w) (rs1Field w) (altLow (altField w)) = w := by
  rw [altLow_altField, ← hop, format3_fields]

theorem format3_midBits :
    format3 op (rdField w) (op3Field w) (rs1Field w) (opfLow (BitVec.ofBool (iField w) ++ 0#8) (rs2Field w)) =
      w &&& ~~~midBits := by
  have hmask : ~~~midBits = keepFormat3 (.allOnes 5) (.allOnes 5) keepLow := rfl
  rw [hmask, and_keepFormat3, hop, BitVec.and_allOnes, BitVec.and_allOnes, low_and_keepLow]

theorem format3_shift :
    format3 op (rdField w) (op3Field w) (rs1Field w) (shiftLow (shiftField w)) = w &&& ~~~midBits := by
  rw [← format3_midBits hop, shiftField]
  cases iField w <;> rfl

theorem format3_operand2 :
    format3 op (rdField w) (op3Field w) (rs1Field w) (operand2Low (operand2Field w)) = w &&& ~~~operandIgnored w := by
  cases hi : iField w with
  | false =>
    rw [operandIgnored, hi]
    refine Eq.trans ?_ (format3_midBits hop)
    rw [operand2Field, hi]
    rfl
  | true =>
    have himm : operand2Low (operand2Field w) = w.extractLsb' 0 14 := by
      rw [operand2Field, hi, ← ofBool_append_simm13Field, hi]
      rfl
    have hmask : ~~~operandIgnored w = .allOnes 32 := by
      rw [operandIgnored, hi]
      rfl
    rw [himm, hmask, BitVec.and_allOnes, ← hop, format3_fields]

theorem format3_operand2_of_rd_ignored :
    format3 op 0#5 (op3Field w) (rs1Field w) (operand2Low (operand2Field w)) = w &&& ~~~(rdBits ||| operandIgnored w) := by
  rw [and_not_or, ← format3_operand2 hop, format3_and_not_rdBits]

theorem format3_cond :
    format3 op (0#1 ++ condField w) (op3Field w) (rs1Field w) (operand2Low (operand2Field w)) =
      w &&& ~~~(0x20000000#32 ||| operandIgnored w) := by
  have hmask : ~~~0x20000000#32 = keepFormat3 (0#1 ++ BitVec.allOnes 4) (.allOnes 5) (.allOnes 14) := rfl
  have hrd : rdField w &&& (0#1 ++ BitVec.allOnes 4) = 0#1 ++ condField w := by
    rw [← ofBool_append_condField]
    exact BitVec.and_append.trans (by rw [BitVec.and_zero, BitVec.and_allOnes])
  rw [and_not_or, ← format3_operand2 hop, hmask, format3_and_keep, hrd, BitVec.and_allOnes, BitVec.and_allOnes]

theorem format3_rs1Bits :
    format3 op (rdField w) (op3Field w) 0#5 (opfLow (opfField w) (rs2Field w)) = w &&& ~~~rs1Bits := by
  have hmask : ~~~rs1Bits = keepFormat3 (.allOnes 5) 0#5 (.allOnes 14) := rfl
  rw [hmask, and_keepFormat3, hop, opfLow_fields, BitVec.and_zero, BitVec.and_allOnes, BitVec.and_allOnes]

theorem format3_rdBits :
    format3 op 0#5 (op3Field w) (rs1Field w) (opfLow (opfField w) (rs2Field w)) = w &&& ~~~rdBits := by
  rw [← format3_and_not_rdBits op (rdField w), format3_opf hop]

theorem format3_rd : format3 op (rdField w) (op3Field w) 0#5 0#14 = w &&& ~~~0x0007FFFF#32 := by
  have hmask : ~~~0x0007FFFF#32 = keepFormat3 (.allOnes 5) 0#5 0#14 := rfl
  rw [hmask, and_keepFormat3, hop, BitVec.and_zero, BitVec.and_zero, BitVec.and_allOnes]

theorem format3_reserved : format3 op 0#5 (op3Field w) 0#5 0#14 = w &&& ~~~0x3E07FFFF#32 := by
  have hmask : ~~~0x3E07FFFF#32 = keepFormat3 0#5 0#5 0#14 := rfl
  rw [hmask, and_keepFormat3, hop, BitVec.and_zero, BitVec.and_zero, BitVec.and_zero]

end

/-! ## Encoding what the maps of op3 deliver -/

/-- The opf values of the FPop1 with one operand, whose rs1 is ignored (R157, R168). -/
def unaryOpf : List (BitVec 9) :=
  [0x001#9, 0x005#9, 0x009#9, 0x029#9, 0x02A#9, 0x02B#9, 0x0C4#9, 0x0C6#9, 0x0C7#9, 0x0C8#9, 0x0C9#9, 0x0CB#9, 0x0CC#9,
    0x0CD#9, 0x0CE#9, 0x0D1#9, 0x0D2#9, 0x0D3#9]

theorem unaryOpf_subset : unaryOpf ⊆ fpop1Assigned := by decide

theorem encode_decodeFPop1 (rd rs1 : RegNum) (opf : BitVec 9) (rs2 : RegNum) :
    encode (decodeFPop1 rd rs1 opf rs2) =
      format3 0b10#2 rd 0b110100#6 (if opf ∈ unaryOpf then 0#5 else rs1) (opfLow opf rs2) := by
  by_cases h : opf ∈ fpop1Assigned
  · fin_cases h <;> rfl
  · have hun : opf ∉ unaryOpf := fun hmem => h (unaryOpf_subset hmem)
    rw [decodeFPop1_of_reserved (by simpa using h), if_neg hun]
    rfl

theorem encode_decodeFPop2 (rd rs1 : RegNum) (opf : BitVec 9) (rs2 : RegNum) :
    encode (decodeFPop2 rd rs1 opf rs2) =
      format3 0b10#2 (if opf ∈ fpop2Assigned then 0#5 else rd) 0b110101#6 rs1 (opfLow opf rs2) := by
  by_cases h : opf ∈ fpop2Assigned
  · fin_cases h <;> rfl
  · rw [decodeFPop2_of_reserved (by simpa using h), if_neg h]
    rfl

theorem encode_decodeTicc (cond : BitVec 4) (rs1 : RegNum) (src : Operand2) :
    encode (decodeTicc cond rs1 src) = format3 0b10#2 (0#1 ++ cond) 0b111010#6 rs1 (operand2Low src) := by
  obtain ⟨⟨n, hn⟩⟩ := cond
  interval_cases n <;> rfl

theorem encode_decodeBicc (cond : BitVec 4) (a : Bool) (disp22 : BitVec 22) :
    encode (decodeBicc cond a disp22) = branchWord a cond 0b010#3 disp22 := by
  obtain ⟨⟨n, hn⟩⟩ := cond
  interval_cases n <;> rfl

theorem encode_decodeFBfcc (cond : BitVec 4) (a : Bool) (disp22 : BitVec 22) :
    encode (decodeFBfcc cond a disp22) = branchWord a cond 0b110#3 disp22 := by
  obtain ⟨⟨n, hn⟩⟩ := cond
  interval_cases n <;> rfl

theorem encode_decodeCBccc (cond : BitVec 4) (a : Bool) (disp22 : BitVec 22) :
    encode (decodeCBccc cond a disp22) = branchWord a cond 0b111#3 disp22 := by
  obtain ⟨⟨n, hn⟩⟩ := cond
  interval_cases n <;> rfl

theorem encode_decodeOp00 {w : Word} (hop : opField w = 0b00#2) : encode (decodeOp00 w) = w &&& ~~~ignoredBits w := by
  rw [ignoredBits, if_pos hop]
  split_ifs with hunimp hres
  · rw [decodeOp00_unimp w hunimp, ← format2_rdBits hop, hunimp]
    rfl
  · rw [← format2_reserved hop]
    unfold decodeOp00
    generalize op2Field w = x at *
    fin_cases hres <;> rfl
  · have hrest : op2Field w ∈ [0b010#3, 0b100#3, 0b110#3, 0b111#3] := by
      generalize op2Field w = x at *
      revert x
      decide
    simp only [List.mem_cons, List.not_mem_nil, or_false] at hrest
    rw [and_not_zero]
    rcases hrest with h | h | h | h
    · rw [decodeOp00_bicc w h, encode_decodeBicc, ← h, branchWord_fields hop]
    · have hfields := format2_fields hop
      rw [h] at hfields
      rw [decodeOp00_sethi w h]
      exact hfields
    · rw [decodeOp00_fbfcc w h, encode_decodeFBfcc, ← h, branchWord_fields hop]
    · rw [decodeOp00_cbccc w h, encode_decodeCBccc, ← h, branchWord_fields hop]

/-- The cases are those of `ignoredOp10`; the rows of each are of one form. -/
theorem encode_decodeOp10 {w : Word} (hop : opField w = 0b10#2) : encode (decodeOp10 w) = w &&& ~~~ignoredOp10 w := by
  unfold ignoredOp10
  split_ifs with hres hshift hread hwrite hticc hfpop hun hfpop2 hcmp hcpop
  · rw [← format3_reserved hop]
    unfold decodeOp10
    generalize op3Field w = x at *
    fin_cases hres <;> rfl
  · rw [← format3_shift hop]
    unfold decodeOp10
    generalize op3Field w = x at *
    fin_cases hshift <;> rfl
  · rw [← format3_rd hop]
    unfold decodeOp10
    generalize op3Field w = x at *
    fin_cases hread <;> rfl
  · rw [← format3_operand2_of_rd_ignored hop]
    unfold decodeOp10
    generalize op3Field w = x at *
    fin_cases hwrite <;> rfl
  · rw [← format3_cond hop, ← decode_of_op10 hop, decodeRow_ticc w hop hticc, encode_decodeTicc, hticc]
  · rw [← format3_rs1Bits hop, ← decode_of_op10 hop, decodeRow_fpop1 w hop hfpop, encode_decodeFPop1,
      hfpop, if_pos (show opfField w ∈ unaryOpf from hun)]
  · rw [and_not_zero, ← decode_of_op10 hop, decodeRow_fpop1 w hop hfpop, encode_decodeFPop1,
      if_neg (show opfField w ∉ unaryOpf from hun), ← hfpop, format3_opf hop]
  · rw [← format3_rdBits hop, ← decode_of_op10 hop, decodeRow_fpop2 w hop hfpop2, encode_decodeFPop2, hfpop2,
      if_pos (show opfField w ∈ fpop2Assigned from hcmp)]
  · rw [and_not_zero, ← decode_of_op10 hop, decodeRow_fpop2 w hop hfpop2, encode_decodeFPop2,
      if_neg (show opfField w ∉ fpop2Assigned from hcmp), ← hfpop2, format3_opf hop]
  · refine Eq.trans ?_ ((format3_opf hop).trans (and_not_zero w).symm)
    unfold decodeOp10
    generalize op3Field w = x at *
    fin_cases hcpop <;> rfl
  · have hrest : op3Field w ∈ [0x00#6, 0x01#6, 0x02#6, 0x03#6, 0x04#6, 0x05#6, 0x06#6, 0x07#6, 0x08#6, 0x0C#6,
        0x10#6, 0x11#6, 0x12#6, 0x13#6, 0x14#6, 0x15#6, 0x16#6, 0x17#6, 0x18#6, 0x1C#6,
        0x20#6, 0x21#6, 0x22#6, 0x23#6, 0x24#6, 0x38#6, 0x3C#6, 0x3D#6] := by
      generalize op3Field w = x at *
      revert x
      decide
    rw [← format3_operand2 hop]
    unfold decodeOp10
    generalize op3Field w = x at *
    fin_cases hrest <;> rfl

/-- The cases are those of `ignoredOp11`. -/
theorem encode_decodeOp11 {w : Word} (hop : opField w = 0b11#2) : encode (decodeOp11 w) = w &&& ~~~ignoredOp11 w := by
  unfold ignoredOp11
  split_ifs with hres hstate halt
  · rw [← format3_reserved hop]
    unfold decodeOp11
    generalize op3Field w = x at *
    fin_cases hres <;> rfl
  · rw [← format3_operand2_of_rd_ignored hop]
    unfold decodeOp11
    generalize op3Field w = x at *
    fin_cases hstate <;> rfl
  · have hrow : op3Field w ∈ [0x10#6, 0x11#6, 0x12#6, 0x13#6, 0x14#6, 0x15#6, 0x16#6, 0x17#6, 0x19#6, 0x1A#6, 0x1D#6,
        0x1F#6] := by
      generalize op3Field w = x at *
      revert x
      decide
    refine Eq.trans ?_ ((format3_alternate hop).trans (and_not_zero w).symm)
    unfold decodeOp11
    generalize op3Field w = x at *
    fin_cases hrow <;> rfl
  · have hrow : op3Field w ∈ [0x00#6, 0x01#6, 0x02#6, 0x03#6, 0x04#6, 0x05#6, 0x06#6, 0x07#6, 0x09#6, 0x0A#6, 0x0D#6,
        0x0F#6, 0x20#6, 0x23#6, 0x24#6, 0x27#6, 0x30#6, 0x33#6, 0x34#6, 0x37#6] := by
      generalize op3Field w = x at *
      revert x
      decide
    rw [← format3_operand2 hop]
    unfold decodeOp11
    generalize op3Field w = x at *
    fin_cases hrow <;> rfl

/-! ## Every word -/

/-- Encoding what a word decodes to clears the bits that decoding ignores, and no other. -/
theorem encode_decode (w : Word) : encode (decode w) = w &&& ~~~ignoredBits w := by
  rcases opField_cases w with hop | hop | hop | hop
  · rw [decode_of_op00 hop, encode_decodeOp00 hop]
  · rw [decode_of_op01 hop, ignoredBits_of_op01 hop, and_not_zero]
    exact format1_fields hop
  · rw [decode_of_op10 hop, ignoredBits_of_op10 hop, encode_decodeOp10 hop]
  · rw [decode_of_op11 hop, ignoredBits_of_op11 hop, encode_decodeOp11 hop]

/-! ## What a word decodes to is well-formed -/

theorem wellFormed_decodeFPop1 (rd rs1 : RegNum) (opf : BitVec 9) (rs2 : RegNum) :
    WellFormed (decodeFPop1 rd rs1 opf rs2) = true := by
  by_cases h : opf ∈ fpop1Assigned
  · fin_cases h <;> rfl
  · rw [decodeFPop1_of_reserved (by simpa using h)]
    simpa [WellFormed] using h

theorem wellFormed_decodeFPop2 (rd rs1 : RegNum) (opf : BitVec 9) (rs2 : RegNum) :
    WellFormed (decodeFPop2 rd rs1 opf rs2) = true := by
  by_cases h : opf ∈ fpop2Assigned
  · fin_cases h <;> rfl
  · rw [decodeFPop2_of_reserved (by simpa using h)]
    simpa [WellFormed] using h

theorem wellFormed_branch (cond : BitVec 4) (a : Bool) (disp22 : BitVec 22) :
    WellFormed (decodeBicc cond a disp22) = true ∧ WellFormed (decodeFBfcc cond a disp22) = true ∧
      WellFormed (decodeCBccc cond a disp22) = true := by
  obtain ⟨⟨n, hn⟩⟩ := cond
  interval_cases n <;> exact ⟨rfl, rfl, rfl⟩

theorem wellFormed_decodeTicc (cond : BitVec 4) (rs1 : RegNum) (src : Operand2) :
    WellFormed (decodeTicc cond rs1 src) = true := by
  obtain ⟨⟨n, hn⟩⟩ := cond
  interval_cases n <;> rfl

/-- The three branch rows are the third, the seventh and the last of R154. -/
theorem wellFormed_decodeOp00 (w : Word) : WellFormed (decodeOp00 w) = true := by
  obtain ⟨hbicc, hfbfcc, hcbccc⟩ := wellFormed_branch (condField w) (aField w) (imm22Field w)
  unfold decodeOp00
  split
  case h_3 => exact hbicc
  case h_7 => exact hfbfcc
  case h_8 => exact hcbccc
  all_goals rfl

/-- FPop1, FPop2 and Ticc are the rows 0x34, 0x35 and 0x3A of R165; every other row delivers one instruction. -/
theorem wellFormed_decodeOp10 (w : Word) : WellFormed (decodeOp10 w) = true := by
  unfold decodeOp10
  split
  case h_53 => exact wellFormed_decodeFPop1 ..
  case h_54 => exact wellFormed_decodeFPop2 ..
  case h_59 => exact wellFormed_decodeTicc ..
  all_goals rfl

theorem wellFormed_decodeOp11 (w : Word) : WellFormed (decodeOp11 w) = true := by
  unfold decodeOp11
  split <;> rfl

theorem wellFormed_decode (w : Word) : WellFormed (decode w) = true := by
  rcases opField_cases w with hop | hop | hop | hop
  · rw [decode_of_op00 hop, wellFormed_decodeOp00]
  · rw [decode_of_op01 hop]
    rfl
  · rw [decode_of_op10 hop, wellFormed_decodeOp10]
  · rw [decode_of_op11 hop, wellFormed_decodeOp11]

/-! ## Bits that are not ignored -/

/-- The mask `m` leaves the `len` bits from `start` on alone. -/
def Leaves (start len : Nat) (m : Word) : Prop := m.extractLsb' start len = 0#len

/-- The words `v` and `w` differ in bits of the mask `m` only. -/
def AgreeOff (m v w : Word) : Prop := v &&& ~~~m = w &&& ~~~m

section
variable {start len : Nat} {m m' : Word}

theorem Leaves.ite {c : Prop} [Decidable c] (h : Leaves start len m) (h' : Leaves start len m') :
    Leaves start len (if c then m else m') := by
  split <;> assumption

theorem Leaves.or (h : Leaves start len m) (h' : Leaves start len m') : Leaves start len (m ||| m') := by
  rw [Leaves, BitVec.extractLsb'_or, h, h', BitVec.or_zero]

theorem Leaves.of_and_eq (h : Leaves start len m') (hsub : m &&& m' = m) : Leaves start len m := by
  rw [Leaves, ← hsub, BitVec.extractLsb'_and, h, BitVec.and_zero]

/-- Words that differ in bits of `m` only have the fields in common that `m` leaves alone. -/
theorem AgreeOff.extractLsb'_eq {v w : Word} (h : AgreeOff m v w) (hm : Leaves start len m) (hlen : start + len ≤ 32) :
    v.extractLsb' start len = w.extractLsb' start len := by
  apply BitVec.eq_of_getLsbD_eq
  intro i hi
  have hlt : start + i < 32 := by omega
  have hbit : (v &&& ~~~m).getLsbD (start + i) = (w &&& ~~~m).getLsbD (start + i) := by rw [h]
  have hclear : (m.extractLsb' start len).getLsbD i = false := by rw [hm, BitVec.getLsbD_zero]
  simp only [BitVec.getLsbD_extractLsb', hi, decide_true, Bool.true_and] at hclear ⊢
  simpa only [BitVec.getLsbD_and, BitVec.getLsbD_not, hlt, hclear, decide_true, Bool.not_false, Bool.and_true] using hbit

end

theorem leaves_operandIgnored {start len : Nat} (hzero : Leaves start len 0#32) (hmid : Leaves start len midBits) (w : Word) :
    Leaves start len (operandIgnored w) := .ite hzero hmid

/-- All but op and op3 is what any word with op = 10 ignores at most. -/
theorem leaves_ignoredOp10 {start len : Nat} (h : Leaves start len 0x3E07FFFF#32) (w : Word) :
    Leaves start len (ignoredOp10 w) :=
  have leaf {m : Word} (hsub : m &&& 0x3E07FFFF#32 = m) : Leaves start len m := h.of_and_eq hsub
  have operand : Leaves start len (operandIgnored w) := leaves_operandIgnored (leaf rfl) (leaf rfl) w
  .ite h <| .ite (leaf rfl) <| .ite (leaf rfl) <| .ite (.or (leaf rfl) operand) <| .ite (.or (leaf rfl) operand) <|
    .ite (.ite (leaf rfl) (leaf rfl)) <| .ite (.ite (leaf rfl) (leaf rfl)) <| .ite (leaf rfl) operand

/-- The same with op = 11. -/
theorem leaves_ignoredOp11 {start len : Nat} (h : Leaves start len 0x3E07FFFF#32) (w : Word) :
    Leaves start len (ignoredOp11 w) :=
  have leaf {m : Word} (hsub : m &&& 0x3E07FFFF#32 = m) : Leaves start len m := h.of_and_eq hsub
  have operand : Leaves start len (operandIgnored w) := leaves_operandIgnored (leaf rfl) (leaf rfl) w
  .ite h <| .ite (.or (leaf rfl) operand) <| .ite (leaf rfl) operand

/-- op is never ignored. -/
theorem leaves_op_ignoredBits (w : Word) : Leaves 30 2 (ignoredBits w) :=
  .ite (.ite rfl <| .ite rfl rfl) <| .ite rfl <| .ite (leaves_ignoredOp10 (by rfl) w) (leaves_ignoredOp11 (by rfl) w)

/-! ## Words that differ in ignored bits only ignore the same bits -/

section
variable {m v w : Word}

theorem AgreeOff.operandIgnored_eq (h : AgreeOff m v w) (hm : Leaves 13 1 m) : operandIgnored v = operandIgnored w := by
  have hi := h.extractLsb'_eq hm (by decide)
  rw [← ofBool_getLsbD, ← ofBool_getLsbD, BitVec.ofBool_eq_iff_eq] at hi
  rw [operandIgnored, operandIgnored, iField, iField, hi]

/-- Two masks given by the same cases are one if they are in the case that applies. -/
theorem AgreeOff.ite_eq {c : Prop} [Decidable c] {m₁ m₂ m₁' m₂' : Word} (h₁ : AgreeOff m₁ v w → m₁' = m₁)
    (h₂ : AgreeOff m₂ v w → m₂' = m₂) :
    AgreeOff (if c then m₁ else m₂) v w → (if c then m₁' else m₂') = if c then m₁ else m₂ := by
  split <;> assumption

theorem AgreeOff.or_operandIgnored_eq (h : AgreeOff (m ||| operandIgnored w) v w) (hm : Leaves 13 1 m) :
    m ||| operandIgnored v = m ||| operandIgnored w := by
  rw [h.operandIgnored_eq (.or hm (leaves_operandIgnored (by rfl) (by rfl) w))]

theorem AgreeOff.ite_opf_eq {l : List (BitVec 9)} {m' : Word} (h : AgreeOff (if opfField w ∈ l then m else m') v w)
    (hm : Leaves 5 9 m) (hm' : Leaves 5 9 m') :
    (if opfField v ∈ l then m else m') = if opfField w ∈ l then m else m' := by
  have hopf : opfField v = opfField w := h.extractLsb'_eq (.ite hm hm') (by decide)
  rw [hopf]

theorem AgreeOff.op3Field_eq (h : AgreeOff m v w) (hm : Leaves 19 6 m) : op3Field v = op3Field w :=
  h.extractLsb'_eq hm (by decide)

theorem AgreeOff.ignoredOp10_eq (h : AgreeOff (ignoredOp10 w) v w) : ignoredOp10 v = ignoredOp10 w := by
  have hop3 := h.op3Field_eq (leaves_ignoredOp10 (by rfl) w)
  unfold ignoredOp10 at h ⊢
  rw [hop3]
  exact ite_eq (fun _ => rfl) (ite_eq (fun _ => rfl) <| ite_eq (fun _ => rfl) <| ite_eq (·.or_operandIgnored_eq rfl) <|
    ite_eq (·.or_operandIgnored_eq rfl) <| ite_eq (·.ite_opf_eq rfl rfl) <| ite_eq (·.ite_opf_eq rfl rfl) <|
    ite_eq (fun _ => rfl) (·.operandIgnored_eq (leaves_operandIgnored (by rfl) (by rfl) w))) h

theorem AgreeOff.ignoredOp11_eq (h : AgreeOff (ignoredOp11 w) v w) : ignoredOp11 v = ignoredOp11 w := by
  have hop3 := h.op3Field_eq (leaves_ignoredOp11 (by rfl) w)
  unfold ignoredOp11 at h ⊢
  rw [hop3]
  exact ite_eq (fun _ => rfl) (ite_eq (·.or_operandIgnored_eq rfl) <|
    ite_eq (fun _ => rfl) (·.operandIgnored_eq (leaves_operandIgnored (by rfl) (by rfl) w))) h

/-- With op = 00 the ignored bits depend on op2, which is not among them. -/
theorem AgreeOff.ignoredBits_eq (h : AgreeOff (ignoredBits w) v w) : ignoredBits v = ignoredBits w := by
  have hop : opField v = opField w := h.extractLsb'_eq (leaves_op_ignoredBits w) (by decide)
  unfold ignoredBits at h ⊢
  rw [hop]
  refine ite_eq (fun h => ?_) (ite_eq (fun _ => rfl) <| ite_eq (·.ignoredOp10_eq) (·.ignoredOp11_eq)) h
  have hop2 : op2Field v = op2Field w := h.extractLsb'_eq (.ite rfl <| .ite rfl rfl) (by decide)
  rw [hop2]

end

/-- Settles O4: both words encode what they decode to as themselves without the same ignored bits, and decoding undoes encoding. -/
theorem everyWordDecodesWellFormed : Obligations.EveryWordDecodesWellFormed := by
  intro w
  refine ⟨wellFormed_decode w, ?_, fun v h => ?_⟩
  · rw [encode_decode, BitVec.and_assoc, BitVec.and_self]
  · have hencode : encode (decode v) = encode (decode w) := by
      rw [encode_decode, encode_decode, AgreeOff.ignoredBits_eq h]
      exact h
    rw [← decode_encode _ (wellFormed_decode v), hencode, decode_encode _ (wellFormed_decode w)]

end Sys2Proof

/-! The statement on ADDX, SUBX and the complementing logical forms (spec 42_arithmetic_logical_shift.md): an instruction that
ends in `State.result` or `State.resultCc` writes r[rd], in the second case icc, and nothing else. -/

namespace Sys2Proof.Machine

/-! ## The frame of a result -/

theorem State.memKept_of_mem_eq {s t : State} (h : t.mem = s.mem) : MemKept s t := fun asi a => by
  rw [State.readByte, State.readByte, h]

/-- What is said of the registers of a state holds of any with the same ones. -/
theorem WritesReg.congr {s t u : State} {w : Window} {rd : RegNum} {v : Word} (h : WritesReg s t w rd v)
    (hg : u.globals = t.globals) (hw : u.windows = t.windows) : WritesReg s u w rd v := by
  obtain ⟨⟨hrd, hother⟩, hwritten⟩ := h
  have hreg (w' : Window) (n : RegNum) : u.regIn w' n = t.regIn w' n := State.regIn_congr hg hw w' n
  refine ⟨⟨fun h0 => ?_, fun w' n hn => ?_⟩, fun p => ?_⟩
  · rw [hreg, hrd h0]
  · rw [hreg, hother w' n hn]
  · rw [← hwritten p]
    cases p <;> simp only [State.physWritten, hg, hw]

theorem State.writesReg_result (s : State) (rd : RegNum) (v : Word) : WritesReg s (s.result rd v) s.psr.cwp rd v :=
  (writesReg_setRegIn s s.psr.cwp rd v).congr rfl rfl

theorem State.writesReg_resultCc (s : State) (rd : RegNum) (v : Word) (f : Icc) :
    WritesReg s (s.resultCc rd v f) s.psr.cwp rd v :=
  (writesReg_setRegIn s s.psr.cwp rd v).congr rfl rfl

theorem State.onlyRegs_result (s : State) (rd : RegNum) (v : Word) : OnlyRegs s (s.result rd v) := rfl

theorem State.onlyRegsIcc_resultCc (s : State) (rd : RegNum) (v : Word) (f : Icc) :
    OnlyRegsIcc s (s.resultCc rd v f) f := rfl

/-- Such an instruction has the whole frame of its result. -/
theorem frame_of_exec_result {i : Instr} {s : State} {rd : RegNum} {v : Word} (h : exec i s = .next (s.result rd v)) :
    ∃ t, exec i s = .next t ∧ WritesReg s t s.psr.cwp rd v ∧ OnlyRegs s t ∧ MemKept s t :=
  ⟨_, h, s.writesReg_result rd v, s.onlyRegs_result rd v, State.memKept_of_mem_eq rfl⟩

theorem frame_of_exec_resultCc {i : Instr} {s : State} {rd : RegNum} {v : Word} {f : Icc}
    (h : exec i s = .next (s.resultCc rd v f)) :
    ∃ t, exec i s = .next t ∧ WritesReg s t s.psr.cwp rd v ∧ OnlyRegsIcc s t f ∧ MemKept s t :=
  ⟨_, h, s.writesReg_resultCc rd v f, s.onlyRegsIcc_resultCc rd v f, State.memKept_of_mem_eq rfl⟩

/-! ## Carries and condition codes -/

theorem carryWord_eq (c : Bool) : carryWord c = BitVec.ofNat 32 c.toNat := by cases c <;> rfl

/-- The sum with the carry, by integers (R307). -/
theorem add_add_carryWord (a b : Word) (c : Bool) :
    a + b + carryWord c = BitVec.ofNat 32 (a.toNat + b.toNat + c.toNat) := by
  rw [carryWord_eq, BitVec.ofNat_add, BitVec.ofNat_add, BitVec.ofNat_toNat, BitVec.ofNat_toNat, BitVec.setWidth_eq,
    BitVec.setWidth_eq]

theorem ofInt_sub_word (x y : Int) : BitVec.ofInt 32 (x - y) = BitVec.ofInt 32 x - BitVec.ofInt 32 y :=
  BitVec.eq_sub_iff_add_eq.2 (by rw [← BitVec.ofInt_add, Int.sub_add_cancel])

/-- The difference with the borrow, by integers (R312). -/
theorem sub_sub_carryWord (a b : Word) (c : Bool) :
    a - b - carryWord c = BitVec.ofInt 32 (a.toNat - b.toNat - c.toNat) := by
  rw [carryWord_eq, ofInt_sub_word, ofInt_sub_word, BitVec.ofInt_natCast, BitVec.ofInt_natCast, BitVec.ofInt_natCast,
    BitVec.ofNat_toNat, BitVec.ofNat_toNat, BitVec.setWidth_eq, BitVec.setWidth_eq]

/-- N and Z of a logical result, by its bits (R321). -/
theorem logicIcc_eq (v : Word) : logicIcc v = { n := v.getLsbD 31, z := decide (v = 0#32), v := false, c := false } := by
  rw [logicIcc, BitVec.msb_eq_getLsbD_last]
  rfl

/-- Settles O12: each instruction of the three lists ends in a result, whose frame is known. -/
theorem carryAndComplementForms : Obligations.CarryAndComplementForms := by
  intro s rd rs1 src i v
  refine ⟨fun _ => rfl, fun _ => rfl, rfl, fun h => ?_, fun h => ?_, fun h => ?_⟩
  · simp only [List.mem_cons, List.not_mem_nil, or_false, Prod.mk.injEq] at h
    refine frame_of_exec_result ?_
    rcases h with ⟨rfl, rfl⟩ | ⟨rfl, rfl⟩ | ⟨rfl, rfl⟩ | ⟨rfl, rfl⟩ | ⟨rfl, rfl⟩
    · rw [← add_add_carryWord]
      rfl
    · rw [← sub_sub_carryWord]
      rfl
    · rfl
    · rfl
    · rfl
  · simp only [List.mem_cons, List.not_mem_nil, or_false, Prod.mk.injEq] at h
    rw [← logicIcc_eq]
    refine frame_of_exec_resultCc ?_
    rcases h with ⟨rfl, rfl⟩ | ⟨rfl, rfl⟩ | ⟨rfl, rfl⟩ <;> rfl
  · have hresult : ∃ v, exec i s = .next (s.result rd v) := by
      simp only [List.mem_cons, List.not_mem_nil, or_false] at h
      rcases h with rfl | rfl | rfl | rfl | rfl <;> exact ⟨_, rfl⟩
    obtain ⟨v, hexec⟩ := hresult
    obtain ⟨-, hwritten⟩ := s.writesReg_result rd v
    exact ⟨_, hexec, hwritten⟩

end Sys2Proof.Machine

/-! The statements on illegal encodings and on sample words (spec 30_encoding.md R154, R156; 46_misc.md R500 to R503). -/

namespace Sys2Proof.Machine

/-- An illegal encoding does nothing but take its trap (60_exceptions.md R552). -/
theorem exec_illegalEncodings {const22 : BitVec 22} {i : Instr} (h : i ∈ illegalEncodings const22) (s : State) :
    exec i s = .next (s.raise .illegalInstruction) := by
  fin_cases h <;> rfl

/-- IFLUSH obeys its pin (R503). -/
theorem exec_iflush (rs1 : RegNum) (src : Operand2) (s : State) :
    exec (.iflush rs1 src) s =
      .next (if s.pins.iflushTraps = true then s.raise .illegalInstruction else s.advance) := by
  show Host.Outcome.next (s.attempt [(s.pins.iflushTraps, .illegalInstruction)] s.advance) = _
  rw [State.attempt_cons, State.attempt_nil]

/-- Settles O51: the trap of an illegal encoding, and the two levels of the pin. -/
theorem illegalEncodingsTrap : Obligations.IllegalEncodingsTrap := by
  intro s const22 rs1 src
  refine ⟨fun i hi => ?_, fun hpin => ?_, fun hpin => ?_⟩
  · exact ⟨_, exec_illegalEncodings hi s, rfl, rfl, State.memKept_of_mem_eq rfl⟩
  · refine ⟨s.advance, ?_, ⟨rfl, rfl⟩, rfl, State.memKept_of_mem_eq rfl⟩
    rw [exec_iflush, hpin]
    rfl
  · rw [exec_iflush, if_pos hpin]

/-- Settles O2: the words are closed, so that the decoder is evaluated on them. -/
theorem decodeReadsSampleWords : Obligations.DecodeReadsSampleWords :=
  ⟨rfl, rfl, rfl, rfl, rfl, rfl, rfl⟩

end Sys2Proof.Machine

/-! The statements on integer loads and stores (spec 40_load_store.md). The two forms of each make one access, said once
(`PerformsAccess.exec_eq`): the traps of R201 in their order, and the state the access leaves when none applies. -/

namespace Sys2Proof.Machine

/-! ## Alignment and refusal -/

/-- The low bits of an address are not zero exactly when the power of two does not divide it. -/
theorem lowBits_ne_zero_iff (a : Word) (k : Nat) : (a.extractLsb' 0 k != 0#k) = true ↔ a.toNat % 2 ^ k ≠ 0 := by
  rw [bne_iff_ne, Ne, ← BitVec.toNat_inj, BitVec.extractLsb'_toNat, BitVec.toNat_ofNat, Nat.shiftRight_zero, Nat.zero_mod]

/-- Misaligned is an address that its size does not divide (20_memory.md R110); for words see `misaligned_word_iff`. -/
theorem misaligned_half_iff (a : Word) : misaligned .half a = true ↔ a.toNat % 2 ≠ 0 := lowBits_ne_zero_iff a 1

theorem misaligned_double_iff (a : Word) : misaligned .double a = true ↔ a.toNat % 8 ≠ 0 := lowBits_ne_zero_iff a 3

/-- A field of a rule restricts the rule only when it is given. -/
theorem eq_none_or_eq_some_iff {α : Type} (field : Option α) (y : α) :
    (field = none ∨ field = some y) ↔ ∀ x, field = some x → x = y := by
  cases field <;> simp

/-- The accesses a rule covers (20_memory.md R122). -/
theorem MexcRule.covers_iff (r : MexcRule) (asi : Asi) (a : Word) (size : AccessSize) (kind : AccessKind) (atomic : Bool) :
    r.covers asi a size kind atomic = true ↔
      r.lo.toNat ≤ a.toNat ∧ a.toNat ≤ r.hi.toNat ∧ (∀ x, r.asi = some x → x = asi) ∧ (∀ x, r.size = some x → x = size) ∧
        (∀ x, r.kind = some x → x = kind) ∧ ∀ x, r.atomic = some x → x = atomic := by
  simp only [MexcRule.covers, Bool.and_eq_true, Bool.or_eq_true, beq_iff_eq, decide_eq_true_eq, eq_none_or_eq_some_iff,
    BitVec.le_def, and_assoc]

/-- The memory system refuses a space that nothing supplies (R103; log 15), and what one of its rules covers (R122). -/
theorem State.refuses_iff (s : State) (asi : Asi) (a : Word) (size : AccessSize) (kind : AccessKind) (atomic : Bool) :
    s.refuses asi a size kind atomic = true ↔
      (¬(0x08 ≤ asi.toNat ∧ asi.toNat ≤ 0x0B) ∧ asi ∉ s.asiSpaces) ∨ ∃ r ∈ s.mexc, r.covers asi a size kind atomic = true := by
  rw [← commonAsi_iff]
  simp [State.refuses]

theorem State.refusesPair_iff (s : State) (asi : Asi) (ea : Word) (kind : AccessKind) :
    s.refusesPair asi ea kind = true ↔
      s.refuses asi ea .double kind false = true ∨ s.refuses asi (ea + 4#32) .double kind false = true := by
  rw [State.refusesPair, Bool.or_eq_true]

/-! ## The two forms of an access -/

/-- With privilege settled, what remains are alignment and refusal, in this order (R201). -/
theorem State.attempt_memTraps (s : State) {alternate : Bool} (h : (alternate && !s.psr.s) = false) (size : AccessSize)
    (ea : Word) (refused : Bool) (done : State) :
    s.attempt (s.memTraps alternate size ea refused) done =
      if misaligned size ea = true then s.raise .notAligned else if refused = true then s.raise .dataAccess else done := by
  simp only [State.memTraps, State.attempt_cons, State.attempt_nil, h, Bool.false_eq_true, if_false]

/-- In state `s` the two forms of an instruction make an access of this size: it is refused where `refused` says, and otherwise
leaves the state `done`. The alternate form is tried for privilege first (R201, R224). -/
structure PerformsAccess (s : State) (forms : MemForms) (rd rs1 : RegNum) (size : AccessSize) (refused : Asi → Word → Bool)
    (done : Asi → Word → State) : Prop where
  plain (src : Operand2) : exec (forms.1 rd rs1 src) s =
    .next (s.attempt (s.memTraps false size (s.ea rs1 src) (refused s.dataAsi (s.ea rs1 src))) (done s.dataAsi (s.ea rs1 src)))
  alternate (src : AltSource) : exec (forms.2 rd rs1 src) s =
    .next (s.alternate rs1 src fun asi ea => s.attempt (s.memTraps true size ea (refused asi ea)) (done asi ea))

section
variable {s : State} {forms : MemForms} {rd rs1 : RegNum} {size : AccessSize} {refused : Asi → Word → Bool}
  {done : Asi → Word → State}

/-- What an access does once no privilege is missing. -/
theorem PerformsAccess.exec_eq (h : PerformsAccess s forms rd rs1 size refused done) {i : Instr} {asi : Asi} {ea : Word}
    (ha : Accesses s forms rd rs1 i asi ea) :
    exec i s = .next (
      if misaligned size ea = true then s.raise .notAligned
      else if refused asi ea = true then s.raise .dataAccess else done asi ea) := by
  rcases ha with ⟨src, rfl, rfl, rfl⟩ | ⟨hs, rs2, rfl, rfl⟩
  · rw [h.plain, s.attempt_memTraps rfl]
  · rw [h.alternate, State.alternate, s.attempt_memTraps (by rw [hs]; rfl)]

/-- An access that is aligned and not refused is made. -/
theorem PerformsAccess.exec_done (h : PerformsAccess s forms rd rs1 size refused done) {i : Instr} {asi : Asi} {ea : Word}
    (ha : Accesses s forms rd rs1 i asi ea) (halign : misaligned size ea = false) (href : refused asi ea = false) :
    exec i s = .next (done asi ea) := by
  simp only [h.exec_eq ha, halign, href, Bool.false_eq_true, if_false]

/-- An alternate form with i = 1 is illegal whatever the mode (R240). -/
theorem PerformsAccess.exec_imm (h : PerformsAccess s forms rd rs1 size refused done) (low13 : BitVec 13) :
    exec (forms.2 rd rs1 (.imm low13)) s = .next (s.raise .illegalInstruction) :=
  h.alternate (.imm low13)

/-- An alternate form in user mode is privileged, whatever its address (R224). -/
theorem PerformsAccess.exec_user (h : PerformsAccess s forms rd rs1 size refused done) (asi : Asi) (rs2 : RegNum)
    (hs : s.psr.s = false) : exec (forms.2 rd rs1 (.reg asi rs2)) s = .next (s.raise .privilegedInstruction) := by
  rw [h.alternate, State.alternate, State.memTraps, State.attempt_cons, hs]
  rfl

end

/-! ## Traps -/

/-- Settles O26: each of the twelve pairs of forms performs an access, whose traps are known in their order. -/
theorem loadStoreTrapsInOrder : Obligations.LoadStoreTrapsInOrder := by
  intro s rd rs1 forms size refused
  refine ⟨rfl, rfl, fun ea => ⟨rfl, misaligned_half_iff ea, misaligned_word_iff ea, misaligned_double_iff ea⟩,
    fun asi ea kind atomic => ?_, fun h => ?_⟩
  · simp only [s.refuses_iff, MexcRule.covers_iff]
  · have hforms : ∃ done, PerformsAccess s forms rd rs1 size refused done := by
      simp only [List.mem_cons, List.not_mem_nil, or_false, Prod.mk.injEq] at h
      rcases h with ⟨rfl, rfl, rfl⟩ | ⟨rfl, rfl, rfl⟩ | ⟨rfl, rfl, rfl⟩ | ⟨rfl, rfl, rfl⟩ | ⟨rfl, rfl, rfl⟩ |
        ⟨rfl, rfl, rfl⟩ | ⟨rfl, rfl, rfl⟩ | ⟨rfl, rfl, rfl⟩ | ⟨rfl, rfl, rfl⟩ | ⟨rfl, rfl, rfl⟩ | ⟨rfl, rfl, rfl⟩ |
        ⟨rfl, rfl, rfl⟩ <;> exact ⟨_, { alternate := fun _ => rfl, plain := fun _ => rfl }⟩
    obtain ⟨done, hperforms⟩ := hforms
    refine ⟨hperforms.exec_imm, hperforms.exec_user, fun i asi ea ha => ⟨fun hmis => ?_, fun halign href => ?_⟩⟩
    · rw [hperforms.exec_eq ha, if_pos hmis]
    · rw [hperforms.exec_eq ha, if_neg (by simp [halign]), if_pos href]

/-! ## Loads -/

/-- Settles O21: each of the five loads performs an access that ends with its datum in r[rd]. -/
theorem singleLoadsExtend : Obligations.SingleLoadsExtend := by
  intro s rd rs1 i asi ea forms size value h ha halign href
  refine frame_of_exec_result ?_
  simp only [List.mem_cons, List.not_mem_nil, or_false, Prod.mk.injEq] at h
  rcases h with ⟨rfl, rfl, rfl⟩ | ⟨rfl, rfl, rfl⟩ | ⟨rfl, rfl, rfl⟩ | ⟨rfl, rfl, rfl⟩ | ⟨rfl, rfl, rfl⟩ <;>
    exact PerformsAccess.exec_done { plain := fun _ => rfl, alternate := fun _ => rfl } ha halign href

/-- The pair of an odd register is that of the even one below it (10_state.md R48). -/
theorem pairEven_toNat (rd : RegNum) : (pairEven rd).toNat = rd.toNat / 2 * 2 := by revert rd; decide

theorem pairOdd_toNat (rd : RegNum) : (pairOdd rd).toNat = rd.toNat / 2 * 2 + 1 := by revert rd; decide

theorem performsAccess_ldd (s : State) (rd rs1 : RegNum) :
    PerformsAccess s (.ldd, .ldda) rd rs1 .double (fun asi ea => s.refusesPair asi ea .read) fun asi ea =>
      ((s.setReg (pairEven rd) (s.readWord asi ea)).setReg (pairOdd rd) (s.readWord asi (ea + 4#32))).advance where
  plain _ := rfl
  alternate _ := rfl

/-- Settles O22: the access of LDD ends with its two words in the pair. -/
theorem doubleLoadsFillPair : Obligations.DoubleLoadsFillPair := by
  intro s rd rs1 i asi ea
  refine ⟨⟨pairEven_toNat rd, pairOdd_toNat rd⟩, s.refusesPair_iff asi ea .read, fun ha halign href => ?_⟩
  exact ⟨_, (performsAccess_ldd s rd rs1).exec_done ha halign href, writesPair_setRegIn s s.psr.cwp rd _ _, rfl,
    State.memKept_of_mem_eq rfl⟩

/-! ## Stores -/

/-- Settles O23: each of the three stores performs an access that ends with its bytes in memory. -/
theorem singleStoresWriteBytes : Obligations.SingleStoresWriteBytes := by
  intro s rd rs1 i asi ea forms size bs hm h ha halign href
  have hexec : exec i s = .next (s.store asi ea bs).advance ∧ bs.length ≤ 4 := by
    simp only [List.mem_cons, List.not_mem_nil, or_false, Prod.mk.injEq] at h
    rcases h with ⟨rfl, rfl, rfl⟩ | ⟨rfl, rfl, rfl⟩ | ⟨rfl, rfl, rfl⟩ <;>
      exact ⟨PerformsAccess.exec_done { plain := fun _ => rfl, alternate := fun _ => rfl } ha halign href, by simp [bigEndian]⟩
  obtain ⟨hexec, hlen⟩ := hexec
  exact ⟨_, hexec, storesBytes_store s asi ea bs hm (by omega), ⟨rfl, rfl⟩, rfl⟩

theorem performsAccess_std (s : State) (rd rs1 : RegNum) :
    PerformsAccess s (.std, .stda) rd rs1 .double (fun asi ea => s.refuses asi ea .double .write false) fun asi ea =>
      s.storeBoth asi ea (s.reg (pairEven rd)) (s.reg (pairOdd rd)) State.advance where
  plain _ := rfl
  alternate _ := rfl

/-- A doubleword store refused at its second word has stored the first one or nothing (20_memory.md R124; log 16). -/
theorem State.tornStore_cases (s : State) (asi : Asi) (ea first : Word) (hm : s.mem.wf = true) :
    (MemKept s (s.tornStore asi ea first) ∧ (s.tornStore asi ea first).recent = s.recent) ∨
      StoresBytes s (s.tornStore asi ea first) asi ea (bigEndian first) := by
  unfold State.tornStore
  split
  · exact .inr (storesBytes_store s asi ea (bigEndian first) hm (by simp [bigEndian]))
  · exact .inl ⟨State.memKept_of_mem_eq rfl, rfl⟩

/-- Nothing else changes but the count of free values, since one was drawn. -/
theorem State.tornStore_frame (s : State) (asi : Asi) (ea first : Word) :
    s.tornStore asi ea first =
      { s with
        mem := (s.tornStore asi ea first).mem
        recent := (s.tornStore asi ea first).recent
        free := (s.tornStore asi ea first).free } := by
  unfold State.tornStore
  split <;> rfl

/-- Settles O24: the access of STD ends with both words in memory, or, its second word refused, as `tornStore_cases` says. -/
theorem doubleStoresWritePair : Obligations.DoubleStoresWritePair := by
  intro s rd rs1 i asi ea hm ha halign href
  have hexec := (performsAccess_std s rd rs1).exec_done ha halign href
  refine ⟨fun hsecond => ?_, fun hsecond => ?_⟩
  · rw [State.storeBoth, if_neg (by simp [hsecond])] at hexec
    exact ⟨_, hexec, storesBytes_store s asi ea _ hm (by simp [bigEndian]), ⟨rfl, rfl⟩, rfl⟩
  · rw [State.storeBoth, if_pos hsecond] at hexec
    exact ⟨_, hexec, s.tornStore_cases asi ea _ hm, s.tornStore_frame asi ea _⟩

/-! ## Atomic exchange -/

theorem performsAccess_ldstub (s : State) (rd rs1 : RegNum) :
    PerformsAccess s (.ldstub, .ldstuba) rd rs1 .byte (fun asi ea => s.refusesAtomic asi ea .byte) fun asi ea =>
      ((s.store asi ea [0xFF#8]).setReg rd (s.unsignedByte asi ea)).advance where
  plain _ := rfl
  alternate _ := rfl

theorem performsAccess_swap (s : State) (rd rs1 : RegNum) :
    PerformsAccess s (.swap, .swapa) rd rs1 .word (fun asi ea => s.refusesAtomic asi ea .word) fun asi ea =>
      ((s.store asi ea (bigEndian (s.reg rd))).setReg rd (s.readWord asi ea)).advance where
  plain _ := rfl
  alternate _ := rfl

/-- An exchange changes memory as its store does and registers as its load does: neither part touches what the other changes. -/
theorem State.frame_exchange (s : State) (asi : Asi) (ea : Word) (rd : RegNum) (old : Word) {bs : List Byte}
    (hm : s.mem.wf = true) (hlen : bs.length ≤ 4) :
    WritesReg s ((s.store asi ea bs).setReg rd old).advance s.psr.cwp rd old ∧
      StoresBytes s ((s.store asi ea bs).setReg rd old).advance asi ea bs ∧
      OnlyRegsMem s ((s.store asi ea bs).setReg rd old).advance :=
  ⟨writesReg_setRegIn (s.store asi ea bs) s.psr.cwp rd old, storesBytes_store s asi ea bs hm (by omega), rfl⟩

/-- Settles O25: LDSTUB and SWAP each perform an access that ends as an exchange. -/
theorem atomicsExchange : Obligations.AtomicsExchange := by
  intro s rd rs1 i asi ea forms size old bs hm h ha halign hread hwrite
  have href : s.refusesAtomic asi ea size = false := by simp [State.refusesAtomic, hread, hwrite]
  have hexec : exec i s = .next ((s.store asi ea bs).setReg rd old).advance ∧ bs.length ≤ 4 := by
    simp only [List.mem_cons, List.not_mem_nil, or_false, Prod.mk.injEq] at h
    rcases h with ⟨rfl, rfl, rfl, rfl⟩ | ⟨rfl, rfl, rfl, rfl⟩
    · exact ⟨(performsAccess_ldstub s rd rs1).exec_done ha halign href, by simp⟩
    · exact ⟨(performsAccess_swap s rd rs1).exec_done ha halign href, by simp [bigEndian]⟩
  obtain ⟨hexec, hlen⟩ := hexec
  exact ⟨_, hexec, s.frame_exchange asi ea rd old hm hlen⟩

end Sys2Proof.Machine

/-! The statements on the loads and stores of the FPU and the coprocessor (spec 41_fp_cp_load_store.md). Each makes one access,
whose traps are known in their order (`PerformsUnitAccess.exec_trap`), and which otherwise leaves a state known by a frame: memory
and the unit change, each as its own part of the access changes it. -/

namespace Sys2Proof.Machine

/-! ## The access -/

/-- In state `s` the instruction makes an access of unit `u`: it tries the traps of R261, and leaves the state `done` when none
applies. -/
def PerformsUnitAccess (s : State) (u : UnitId) (i : Instr) (privileged : Bool) (size : AccessSize) (ea : Word) (refused : Bool)
    (done : State) : Prop :=
  exec i s = .next (s.attempt (s.unitTraps u privileged size ea refused) done)

theorem State.attempt_of_some {s done : State} {conds : List (Bool × Trap)} {trap : Trap} (h : firstTrap conds = some trap) :
    s.attempt conds done = s.raise trap := by
  rw [State.attempt, h]

section
variable {s : State} {u : UnitId} {i : Instr} {privileged : Bool} {size : AccessSize} {ea : Word} {refused : Bool} {done : State}

/-- The first trap that applies is taken, and nothing else is done. -/
theorem PerformsUnitAccess.exec_trap (h : PerformsUnitAccess s u i privileged size ea refused done) {trap : Trap}
    (htrap : firstTrap (s.unitTraps u privileged size ea refused) = some trap) : exec i s = .next (s.raise trap) := by
  rw [h, State.attempt_of_some htrap]

/-- An access that no trap stops is made. -/
theorem PerformsUnitAccess.exec_done (h : PerformsUnitAccess s u i privileged size ea refused done)
    (hpriv : (privileged && !s.psr.s) = false) (hdis : s.unitDisabled u = false) (hpend : (s.unit u).excPending = false)
    (halign : misaligned size ea = false) (href : refused = false) : exec i s = .next done := by
  rw [h]
  simp only [State.unitTraps, State.attempt_cons, State.attempt_nil, hpriv, hdis, hpend, halign, href, Bool.false_eq_true,
    if_false]

end

/-! ## Traps -/

theorem disabledTrap_eq (u : UnitId) : disabledTrap u = if u = .fpu then .fpDisabled else .cpDisabled := by cases u <;> rfl

theorem exceptionTrap_eq (u : UnitId) : exceptionTrap u = if u = .fpu then .fpException else .cpException := by cases u <;> rfl

/-- Settles O30: each of the fourteen instructions performs an access, refused as listed: of two words a load is refused at either
one, a store (here) at the first. -/
theorem unitAccessTrapsInOrder : Obligations.UnitAccessTrapsInOrder := by
  intro s rd rs1 src u i privileged size kind trap hrow htrap
  obtain ⟨refused, done, hperforms, hrefused⟩ : ∃ refused done,
      PerformsUnitAccess s u i privileged size (s.ea rs1 src) refused done ∧
        refused = (s.refuses s.dataAsi (s.ea rs1 src) size kind false ||
          (size == .double && kind == .read && s.refuses s.dataAsi (s.ea rs1 src + 4#32) size kind false)) := by
    simp only [List.mem_cons, List.not_mem_nil, or_false, Prod.mk.injEq] at hrow
    rcases hrow with ⟨rfl, rfl, rfl, rfl, rfl⟩ | ⟨rfl, rfl, rfl, rfl, rfl⟩ | ⟨rfl, rfl, rfl, rfl, rfl⟩ |
      ⟨rfl, rfl, rfl, rfl, rfl⟩ | ⟨rfl, rfl, rfl, rfl, rfl⟩ | ⟨rfl, rfl, rfl, rfl, rfl⟩ | ⟨rfl, rfl, rfl, rfl, rfl⟩ |
      ⟨rfl, rfl, rfl, rfl, rfl⟩ | ⟨rfl, rfl, rfl, rfl, rfl⟩ | ⟨rfl, rfl, rfl, rfl, rfl⟩ | ⟨rfl, rfl, rfl, rfl, rfl⟩ |
      ⟨rfl, rfl, rfl, rfl, rfl⟩ | ⟨rfl, rfl, rfl, rfl, rfl⟩ | ⟨rfl, rfl, rfl, rfl, rfl⟩ <;>
      exact ⟨_, _, rfl, by simp [State.refusesPair]⟩
  refine hperforms.exec_trap ?_
  rw [State.unitTraps, disabledTrap_eq, exceptionTrap_eq, hrefused]
  exact htrap

/-! ## Registers of a unit -/

theorem CoUnit.reg_setReg (x : CoUnit) (n m : RegNum) (w : Word) : (x.setReg n w).reg m = if n = m then w else x.reg m := by
  simp only [CoUnit.reg, CoUnit.setReg, Vector.getElem_set, BitVec.toNat_inj]

theorem CoUnit.reg_setReg_self (x : CoUnit) (n : RegNum) (w : Word) : (x.setReg n w).reg n = w := by
  rw [CoUnit.reg_setReg, if_pos rfl]

theorem CoUnit.reg_setReg_of_ne (x : CoUnit) {n m : RegNum} (w : Word) (h : m ≠ n) : (x.setReg n w).reg m = x.reg m := by
  rw [CoUnit.reg_setReg, if_neg h.symm]

theorem CoUnit.reg_setPair_even (x : CoUnit) (rd : RegNum) (w0 w1 : Word) : (x.setPair rd w0 w1).reg (pairEven rd) = w0 := by
  rw [CoUnit.setPair, CoUnit.reg_setReg_of_ne _ _ (pairEven_ne_pairOdd rd), CoUnit.reg_setReg_self]

theorem CoUnit.reg_setPair_odd (x : CoUnit) (rd : RegNum) (w0 w1 : Word) : (x.setPair rd w0 w1).reg (pairOdd rd) = w1 :=
  CoUnit.reg_setReg_self _ _ w1

theorem CoUnit.reg_setPair_of_ne (x : CoUnit) {rd n : RegNum} (w0 w1 : Word) (heven : n ≠ pairEven rd) (hodd : n ≠ pairOdd rd) :
    (x.setPair rd w0 w1).reg n = x.reg n := by
  rw [CoUnit.setPair, CoUnit.reg_setReg_of_ne _ _ hodd, CoUnit.reg_setReg_of_ne _ _ heven]

/-! ## The state register of a unit -/

/-- The bits a merge takes from each side. -/
theorem merge_and_mask (a b m : Word) : ((a &&& m) ||| (b &&& ~~~m)) &&& m = a &&& m := by
  ext j hj
  simp only [BitVec.getElem_and, BitVec.getElem_or, BitVec.getElem_not]
  cases m[j] <;> simp

theorem merge_and_not_mask (a b m : Word) : ((a &&& m) ||| (b &&& ~~~m)) &&& ~~~m = b &&& ~~~m := by
  ext j hj
  simp only [BitVec.getElem_and, BitVec.getElem_or, BitVec.getElem_not]
  cases m[j] <;> simp

/-- The condition code field can be written, wherever it stands (R267, R282; log 29). -/
theorem ccOfStatus_statusWritable (u : UnitId) : ccOfStatus u (statusWritable u) = 3#2 := by
  have hfield : ∀ k (h : k < 2), (3#32)[k] = true ∧ (3#2)[k] = true := by decide
  refine BitVec.eq_of_getLsbD_eq fun j hj => ?_
  have hplace := (ccPlace u).isLt
  obtain ⟨hshifted, hones⟩ := hfield j hj
  simp [ccOfStatus, statusWritable, hj, hshifted, hones, show (ccPlace u).val + j < 32 by omega]

theorem ccOfStatus_and_statusWritable (u : UnitId) (w : Word) : ccOfStatus u (w &&& statusWritable u) = ccOfStatus u w := by
  have hones : ccOfStatus u (statusWritable u) = BitVec.allOnes 2 := ccOfStatus_statusWritable u
  rw [ccOfStatus, BitVec.extractLsb'_and, ← ccOfStatus, ← ccOfStatus, hones, BitVec.and_allOnes]

theorem CoUnit.setStatus_writable (x : CoUnit) (u : UnitId) (w : Word) :
    (x.setStatus u w).status &&& statusWritable u = w &&& statusWritable u :=
  merge_and_mask w x.status (statusWritable u)

theorem CoUnit.setStatus_kept (x : CoUnit) (u : UnitId) (w : Word) :
    (x.setStatus u w).status &&& ~~~statusWritable u = x.status &&& ~~~statusWritable u :=
  merge_and_not_mask w x.status (statusWritable u)

/-- A load of the state register sets the condition codes from its word (R264, R267, R282). -/
theorem CoUnit.setStatus_cc (x : CoUnit) (u : UnitId) (w : Word) : (x.setStatus u w).cc = ccOfStatus u w := by
  calc (x.setStatus u w).cc
      = ccOfStatus u ((x.setStatus u w).status &&& statusWritable u) := (ccOfStatus_and_statusWritable u _).symm
    _ = ccOfStatus u w := by rw [CoUnit.setStatus_writable, ccOfStatus_and_statusWritable]

/-! ## What is done to a unit -/

/-- From `s` to `t` nothing changes but the unit `u` and the count of free values: what an access does besides its memory part and
its step to the next instruction. -/
def TouchesUnit (s t : State) (u : UnitId) : Prop := ∃ x k, t = { s.setUnit u x with free := k }

theorem State.touchesUnit_driveUnit (s : State) (u : UnitId) (effect : CoUnit → CoUnit) :
    TouchesUnit s (s.driveUnit u effect) u := by
  unfold State.driveUnit
  split
  · exact ⟨_, _, rfl⟩
  · exact ⟨_, _, rfl⟩

theorem State.touchesUnit_popQueue (s : State) (u : UnitId) : TouchesUnit s (s.popQueue u) u := by
  unfold State.popQueue
  split
  · exact ⟨s.unit u, s.free + 1, by rw [s.setUnit_self]⟩
  · exact ⟨_, _, rfl⟩

section
variable {s t : State} {u : UnitId}

theorem TouchesUnit.mem_eq (h : TouchesUnit s t u) : t.mem = s.mem := by
  obtain ⟨x, k, rfl⟩ := h
  rfl

theorem TouchesUnit.recent_eq (h : TouchesUnit s t u) : t.recent = s.recent := by
  obtain ⟨x, k, rfl⟩ := h
  rfl

/-- An access that reads memory has the frame of its work on the unit. -/
theorem TouchesUnit.onlyUnit (h : TouchesUnit s t u) : OnlyUnit s t.advance u := by
  obtain ⟨x, k, rfl⟩ := h
  cases u <;> rfl

/-- An access that stores has that frame and the frame of its store: neither part touches what the other changes. -/
theorem TouchesUnit.onlyUnitMem {asi : Asi} {ea : Word} {bs : List Byte} (h : TouchesUnit (s.store asi ea bs) t u) :
    OnlyUnitMem s t.advance u := by
  obtain ⟨x, k, rfl⟩ := h
  cases u <;> rfl

theorem TouchesUnit.storesBytes {asi : Asi} {ea : Word} {bs : List Byte} (h : TouchesUnit (s.store asi ea bs) t u)
    (hm : s.mem.wf = true) (hlen : bs.length ≤ 8) : StoresBytes s t.advance asi ea bs := by
  obtain ⟨hinside, houtside, hrecent⟩ := storesBytes_store s asi ea bs hm (by omega)
  have hmem : t.advance.mem = (s.store asi ea bs).mem := h.mem_eq
  refine ⟨fun j hj => ?_, fun asi' a' hother => ?_, h.recent_eq.trans hrecent⟩
  · rw [State.readByte, hmem]
    exact hinside j hj
  · rw [State.readByte, hmem]
    exact houtside asi' a' hother

/-- Outside exception mode a unit does what the instruction says (45_fpop_cpop.md R447; log 30). -/
theorem State.driveUnit_eq_setUnit (h : (s.unit u).excMode = false) (effect : CoUnit → CoUnit) :
    s.driveUnit u effect = s.setUnit u (effect (s.unit u)) := by
  rw [State.driveUnit, if_neg (by simp [h])]

theorem State.drivenWord_eq (h : (s.unit u).excMode = false) (slot : Nat) (w : CoUnit → Word) :
    s.drivenWord u slot w = w (s.unit u) := by
  rw [State.drivenWord, if_neg (by simp [h])]

end

theorem State.store_unit (s : State) (asi : Asi) (a : Word) (bs : List Byte) (u : UnitId) :
    (s.store asi a bs).unit u = s.unit u := by
  cases u <;> rfl

theorem State.advance_unit (s : State) (u : UnitId) : s.advance.unit u = s.unit u := by cases u <;> rfl

/-! ## Loads -/

/-- The state a load leaves: the unit has done what it does with the loaded data, unless it was in exception mode. -/
theorem State.frame_unitLoad (s : State) (u : UnitId) (effect : CoUnit → CoUnit) :
    let t := (s.driveUnit u effect).advance
    OnlyUnit s t u ∧ t.prev = .other ∧ MemKept s t ∧
      ((s.unit u).excMode = false → t.free = s.free ∧ t.unit u = effect (s.unit u)) := by
  intro t
  have htouch := s.touchesUnit_driveUnit u effect
  refine ⟨htouch.onlyUnit, rfl, State.memKept_of_mem_eq htouch.mem_eq, fun hmode => ?_⟩
  have hset : t = (s.setUnit u (effect (s.unit u))).advance := congrArg State.advance (State.driveUnit_eq_setUnit hmode effect)
  rw [hset, State.advance_unit, State.setUnit_unit]
  exact ⟨rfl, rfl⟩

/-- Settles O27: each of the six loads performs an access whose work on the unit loads what the list says. -/
theorem unitLoadsFillRegisters : Obligations.UnitLoadsFillRegisters := by
  intro s rd rs1 src u i ea size refused loaded hea hrow hdis hpend halign href
  obtain ⟨effect, hperforms, hloaded⟩ : ∃ effect : CoUnit → CoUnit,
      PerformsUnitAccess s u i false size ea refused (s.driveUnit u effect).advance ∧ ∀ x, loaded x (effect x) := by
    subst hea
    simp only [List.mem_cons, List.not_mem_nil, or_false, Prod.mk.injEq] at hrow
    rcases hrow with ⟨rfl, rfl, rfl, rfl, rfl⟩ | ⟨rfl, rfl, rfl, rfl, rfl⟩ | ⟨rfl, rfl, rfl, rfl, rfl⟩ |
      ⟨rfl, rfl, rfl, rfl, rfl⟩ | ⟨rfl, rfl, rfl, rfl, rfl⟩ | ⟨rfl, rfl, rfl, rfl, rfl⟩
    case inl | inr.inr.inr.inl => exact ⟨_, rfl, fun x => ⟨rfl, x.reg_setReg_self rd _, fun _ => x.reg_setReg_of_ne _⟩⟩
    case inr.inl | inr.inr.inr.inr.inl =>
      exact ⟨_, rfl, fun x => ⟨rfl, x.reg_setPair_even rd _ _, x.reg_setPair_odd rd _ _, fun n => x.reg_setPair_of_ne _ _⟩⟩
    all_goals exact ⟨_, rfl, fun x => ⟨rfl, x.setStatus_writable _ _, x.setStatus_kept _ _⟩⟩
  obtain ⟨honly, hprev, hmem, hunit⟩ := s.frame_unitLoad u effect
  refine ⟨_, hperforms.exec_done rfl hdis hpend halign href, honly, hprev, hmem, fun hmode => ?_⟩
  obtain ⟨hfree, heffect⟩ := hunit hmode
  exact ⟨hfree, heffect ▸ hloaded (s.unit u)⟩

/-! ## Stores -/

/-- The instruction ends with words in memory, the given ones unless unit `u` is in exception mode, and the unit then as it was. -/
def StoresUnitWords (s : State) (u : UnitId) (i : Instr) (ea : Word) (words : List Word) : Prop :=
  ∃ t ws, exec i s = .next t ∧ ws.length = words.length ∧ StoresBytes s t s.dataAsi ea (ws.flatMap bigEndian) ∧
    OnlyUnitMem s t u ∧ ((s.unit u).excMode = false → ws = words ∧ t.unit u = s.unit u ∧ t.free = s.free)

theorem State.unit_driveUnit_store {s : State} {u : UnitId} (hmode : (s.unit u).excMode = false) (asi : Asi) (ea : Word)
    (bs : List Byte) : (s.store asi ea bs).driveUnit u id = (s.store asi ea bs).setUnit u (s.unit u) := by
  have hunit := s.store_unit asi ea bs u
  rw [State.driveUnit_eq_setUnit (by rw [hunit, hmode]), hunit]
  rfl

/-- A store of one or two words that the unit drives. -/
theorem storesUnitWords_of_exec {s : State} {u : UnitId} {i : Instr} {ea : Word} {ws words : List Word} (hm : s.mem.wf = true)
    (hexec : exec i s = .next ((s.store s.dataAsi ea (ws.flatMap bigEndian)).driveUnit u id).advance)
    (hlen : ws.length = words.length) (htwo : ws.length ≤ 2) (hdriven : (s.unit u).excMode = false → ws = words) :
    StoresUnitWords s u i ea words := by
  have htouch := (s.store s.dataAsi ea (ws.flatMap bigEndian)).touchesUnit_driveUnit u id
  have hbytes : (ws.flatMap bigEndian).length ≤ 8 := by
    simp only [List.length_flatMap, bigEndian, List.length_cons, List.length_nil, List.map_const', List.sum_replicate, smul_eq_mul]
    omega
  refine ⟨_, ws, hexec, hlen, htouch.storesBytes hm hbytes, htouch.onlyUnitMem, fun hmode => ⟨hdriven hmode, ?_⟩⟩
  rw [State.unit_driveUnit_store hmode, State.advance_unit, State.setUnit_unit]
  exact ⟨rfl, rfl⟩

/-- Both words of a doubleword store are made when the second one is not refused. -/
theorem State.storeBoth_of_accepted {s : State} {asi : Asi} {ea : Word} (h : s.refuses asi (ea + 4#32) .double .write false = false)
    (w0 w1 : Word) (after : State → State) :
    s.storeBoth asi ea w0 w1 after = after (s.store asi ea (bigEndian w0 ++ bigEndian w1)) := by
  rw [State.storeBoth, if_neg (by simp [h])]
  rfl

/-- The instruction takes data_access_exception for the second word of its store, with at most the bytes of the first word, one
that `first` allows, changed (20_memory.md R124; log 16). -/
def EndsTorn (s : State) (i : Instr) (asi : Asi) (ea : Word) (first : Word → Prop) : Prop :=
  ∃ (v : State) (w : Word), exec i s = .next (v.raise .dataAccess) ∧ first w ∧
    (MemKept s v ∧ v.recent = s.recent ∨ StoresBytes s v asi ea (bigEndian w)) ∧
    v = { s with mem := v.mem, recent := v.recent, free := v.free }

theorem endsTorn_of_storeBoth {s : State} {i : Instr} {asi : Asi} {ea w0 w1 : Word} {after : State → State} {first : Word → Prop}
    (hm : s.mem.wf = true) (hexec : exec i s = .next (s.storeBoth asi ea w0 w1 after))
    (href : s.refuses asi (ea + 4#32) .double .write false = true) (hfirst : first w0) : EndsTorn s i asi ea first := by
  rw [State.storeBoth, if_pos href] at hexec
  exact ⟨_, w0, hexec, hfirst, s.tornStore_cases asi ea w0 hm, s.tornStore_frame asi ea w0⟩

/-! ### Stores of the queue -/

/-- A queue store performs an access that stores the two words of the queue and removes the front entry. -/
theorem performsUnitAccess_storeQueue (s : State) (rs1 : RegNum) (src : Operand2) {u : UnitId} {i : Instr}
    (h : (u, i) ∈ [(.fpu, .stdfq rs1 src), (.cp, .stdcq rs1 src)]) :
    PerformsUnitAccess s u i true .double (s.ea rs1 src) (s.refuses s.dataAsi (s.ea rs1 src) .double .write false)
      (s.storeBoth s.dataAsi (s.ea rs1 src) (s.queueWords u).1 (s.queueWords u).2 fun t => (t.popQueue u).advance) := by
  simp only [List.mem_cons, List.not_mem_nil, or_false, Prod.mk.injEq] at h
  rcases h with ⟨rfl, rfl⟩ | ⟨rfl, rfl⟩ <;> rfl

theorem State.queueWords_cons {s : State} {u : UnitId} {e : QueueEntry} {rest : List QueueEntry}
    (h : (s.unit u).queue = e :: rest) : s.queueWords u = (e.addr, e.instr) := by
  rw [State.queueWords, h]

/-- The front entry leaves the queue, and exception mode ends with the last one (R273, 60_exceptions.md R556). -/
theorem State.popQueue_unit_cons {s : State} {u : UnitId} {e : QueueEntry} {rest : List QueueEntry}
    (h : (s.unit u).queue = e :: rest) :
    (s.popQueue u).unit u =
      { s.unit u with queue := rest, excMode := (s.unit u).excMode && decide (rest ≠ []) } := by
  rw [State.popQueue, h, State.setUnit_unit]
  cases rest <;> rfl

theorem State.popQueue_unit_nil {s : State} {u : UnitId} (h : (s.unit u).queue = []) : (s.popQueue u).unit u = s.unit u := by
  rw [State.popQueue, h]
  cases u <;> rfl

/-- Settles O29: the access of a queue store leaves both words in memory and the unit without its front entry. -/
theorem queueStoresPopFront : Obligations.QueueStoresPopFront := by
  intro s rs1 src u i hm hrow hs hdis hpend halign href hsecond
  have hexec := (performsUnitAccess_storeQueue s rs1 src hrow).exec_done (by rw [hs]; rfl) hdis hpend halign href
  rw [State.storeBoth_of_accepted hsecond] at hexec
  have htouch := State.touchesUnit_popQueue (s.store s.dataAsi (s.ea rs1 src)
    (bigEndian (s.queueWords u).1 ++ bigEndian (s.queueWords u).2)) u
  refine ⟨_, _, _, hexec, htouch.storesBytes hm (by simp [bigEndian]), htouch.onlyUnitMem, fun e rest hqueue => ?_,
    fun hqueue => ?_⟩
  · rw [State.queueWords_cons hqueue, State.advance_unit, State.popQueue_unit_cons (by rw [State.store_unit, hqueue]),
      State.store_unit]
    exact ⟨rfl, rfl, rfl⟩
  · rw [State.advance_unit, State.popQueue_unit_nil (by rw [State.store_unit, hqueue]), State.store_unit]

/-! ### Stores of registers and of the state register -/

/-- The access of a store that is not one of the queue: one word of unit `u`, or two. -/
theorem performsUnitAccess_store (s : State) (rd rs1 : RegNum) (src : Operand2) {u : UnitId} {i : Instr} {size : AccessSize}
    {words : List Word}
    (h : (u, i, size, words) ∈
      [(.fpu, .stf rd rs1 src, .word, [(s.unit u).reg rd]),
       (.fpu, .stdf rd rs1 src, .double, [(s.unit u).reg (pairEven rd), (s.unit u).reg (pairOdd rd)]),
       (.fpu, .stfsr rs1 src, .word, [(s.unit u).statusWord u]), (.cp, .stc rd rs1 src, .word, [(s.unit u).reg rd]),
       (.cp, .stdc rd rs1 src, .double, [(s.unit u).reg (pairEven rd), (s.unit u).reg (pairOdd rd)]),
       (.cp, .stcsr rs1 src, .word, [(s.unit u).statusWord u])]) :
    ∃ done,
      PerformsUnitAccess s u i false size (s.ea rs1 src) (s.refuses s.dataAsi (s.ea rs1 src) size .write false) done ∧
        ((∃ w : CoUnit → Word, size = .word ∧ words = [w (s.unit u)] ∧
            done = ((s.store s.dataAsi (s.ea rs1 src) (bigEndian (s.drivenWord u 0 w))).driveUnit u id).advance) ∨
          ∃ w0 w1 : CoUnit → Word, size = .double ∧ words = [w0 (s.unit u), w1 (s.unit u)] ∧
            done = s.storeBoth s.dataAsi (s.ea rs1 src) (s.drivenWord u 0 w0) (s.drivenWord u 1 w1) fun t =>
              (t.driveUnit u id).advance) := by
  simp only [List.mem_cons, List.not_mem_nil, or_false, Prod.mk.injEq] at h
  rcases h with ⟨rfl, rfl, rfl, rfl⟩ | ⟨rfl, rfl, rfl, rfl⟩ | ⟨rfl, rfl, rfl, rfl⟩ | ⟨rfl, rfl, rfl, rfl⟩ |
    ⟨rfl, rfl, rfl, rfl⟩ | ⟨rfl, rfl, rfl, rfl⟩
  case inl | inr.inr.inr.inl => exact ⟨_, rfl, .inl ⟨fun x => x.reg rd, rfl, rfl, rfl⟩⟩
  case inr.inl | inr.inr.inr.inr.inl =>
    exact ⟨_, rfl, .inr ⟨fun x => x.reg (pairEven rd), fun x => x.reg (pairOdd rd), rfl, rfl, rfl⟩⟩
  all_goals exact ⟨_, rfl, .inl ⟨fun x => x.statusWord _, rfl, rfl, rfl⟩⟩

/-- Settles O28: a store performs an access of the words its unit drives, one or two; a second word refused, of a queue store too,
ends it torn. -/
theorem unitStoresWriteBytes : Obligations.UnitStoresWriteBytes := by
  intro s rs1 src u hm ea x second torn
  refine ⟨fun rd i size words hrow hdis hpend halign href => ?_, fun i hrow hs hdis hpend halign href hsecond => ?_,
    x.ccOfStatus_statusWord u, x.setStatus_cc u⟩
  · obtain ⟨done, hperforms, hdone⟩ := performsUnitAccess_store s rd rs1 src hrow
    have hexec := hperforms.exec_done rfl hdis hpend halign href
    rcases hdone with ⟨w, rfl, rfl, rfl⟩ | ⟨w0, w1, rfl, rfl, rfl⟩
    · have hstores : StoresUnitWords s u i ea [w x] :=
        storesUnitWords_of_exec (ws := [s.drivenWord u 0 w]) hm hexec rfl (by simp) fun hmode => by
          rw [State.drivenWord_eq hmode]
      exact ⟨fun _ => hstores, nofun⟩
    · refine ⟨fun haccepted => ?_, fun _ hsecond => endsTorn_of_storeBoth hm hexec hsecond fun hmode => ?_⟩
      · rw [State.storeBoth_of_accepted (haccepted.resolve_left nofun)] at hexec
        exact storesUnitWords_of_exec (ws := [s.drivenWord u 0 w0, s.drivenWord u 1 w1]) hm hexec rfl (by simp) fun hmode => by
          rw [State.drivenWord_eq hmode, State.drivenWord_eq hmode]
      · rw [State.drivenWord_eq hmode]
        rfl
  · have hexec := (performsUnitAccess_storeQueue s rs1 src hrow).exec_done (by rw [hs]; rfl) hdis hpend halign href
    refine endsTorn_of_storeBoth hm hexec hsecond fun e rest hqueue => ?_
    rw [State.queueWords_cons hqueue]

end Sys2Proof.Machine

/-! The statements on arithmetic, logic and shifts (spec 42_arithmetic_logical_shift.md). What these instructions do besides taking
a trap is `State.result` or `State.resultCc`, whose frame `frame_of_exec_result` and `frame_of_exec_resultCc` give. What is left is
arithmetic: the value by integers, and the codes, which the model computes from sign bits, by the integer sum or difference. -/

namespace Sys2Proof.Machine

/-! ## The opcode -/

theorem opcode_of_encode {i : Instr} {op : BitVec 2} {rd : RegNum} {op3 : BitVec 6} {rs1 : RegNum} {low : BitVec 14}
    (h : encode i = format3 op rd op3 rs1 low) : opField (encode i) = op ∧ op3Field (encode i) = op3 := by
  rw [h]
  exact ⟨opField_format3 op rd op3 rs1 low, op3Field_format3 op rd op3 rs1 low⟩

/-! ## Carry and overflow

The sign bits of the operands and of the result determine both, because the result is the sum or difference modulo 2^32 and a sign
bit compares with 2^31 (R302; log 6). -/

section AdditionCodes

variable {a b r : Word} {c : Bool}

theorem toNat_of_eq_add_carryWord (h : r = a + b + carryWord c) : r.toNat = (a.toNat + b.toNat + c.toNat) % 2 ^ 32 := by
  rw [h, add_add_carryWord, BitVec.toNat_ofNat]

theorem addIcc_c (h : r = a + b + carryWord c) :
    (addIcc a b r).c = decide (2 ^ 32 ≤ a.toNat + b.toNat + c.toNat) := by
  have hr := toNat_of_eq_add_carryWord h
  have hc := c.toNat_le
  simp only [addIcc, BitVec.msb_eq_decide, ← Bool.decide_or, ← Bool.decide_and, ← decide_not, decide_eq_decide]
  omega

theorem addIcc_v (h : r = a + b + carryWord c) :
    (addIcc a b r).v = signedOverflow (a.toInt + b.toInt + c.toNat) := by
  have hr := toNat_of_eq_add_carryWord h
  have hc := c.toNat_le
  simp only [addIcc, signedOverflow, BitVec.toInt_eq_toNat_cond, BitVec.msb_eq_decide, ← Bool.decide_or, ← Bool.decide_and,
    ← decide_not, decide_eq_decide]
  omega

theorem addCodes_addIcc (h : r = a + b + carryWord c) : AddCodes a b c (addIcc a b r) := by
  have hr := toNat_of_eq_add_carryWord h
  refine ⟨?_, ?_, addIcc_c h⟩
  · rw [← add_add_carryWord, ← h]
    exact BitVec.msb_eq_getLsbD_last r
  · rw [← hr, Bool.eq_iff_iff, decide_eq_true_eq]
    exact beq_iff_eq.trans BitVec.toNat_inj.symm

end AdditionCodes

section SubtractionCodes

variable {a b r : Word} {c : Bool}

theorem toNat_of_eq_sub_carryWord (h : r = a - b - carryWord c) :
    (r.toNat : Int) = (a.toNat - b.toNat - c.toNat : Int) % 2 ^ 32 := by
  rw [h, sub_sub_carryWord, BitVec.toNat_ofInt]
  omega

theorem subIcc_c (h : r = a - b - carryWord c) : (subIcc a b r).c = decide (a.toNat < b.toNat + c.toNat) := by
  have hr := toNat_of_eq_sub_carryWord h
  have hc := c.toNat_le
  simp only [subIcc, BitVec.msb_eq_decide, ← Bool.decide_or, ← Bool.decide_and, ← decide_not, decide_eq_decide]
  omega

theorem subIcc_v (h : r = a - b - carryWord c) :
    (subIcc a b r).v = signedOverflow (a.toInt - b.toInt - c.toNat) := by
  have hr := toNat_of_eq_sub_carryWord h
  have hc := c.toNat_le
  simp only [subIcc, signedOverflow, BitVec.toInt_eq_toNat_cond, BitVec.msb_eq_decide, ← Bool.decide_or, ← Bool.decide_and,
    ← decide_not, decide_eq_decide]
  omega

theorem subCodes_subIcc (h : r = a - b - carryWord c) : SubCodes a b c (subIcc a b r) := by
  refine ⟨?_, ?_, subIcc_c h⟩
  · rw [← sub_sub_carryWord, ← h]
    exact BitVec.msb_eq_getLsbD_last r
  · rw [← sub_sub_carryWord, ← h]
    rfl

end SubtractionCodes

/-! ### Without a carry-in -/

theorem add_eq_add_carryWord (a b : Word) : a + b = a + b + carryWord false := (BitVec.add_zero (a + b)).symm

theorem sub_eq_sub_carryWord (a b : Word) : a - b = a - b - carryWord false := (BitVec.sub_zero (a - b)).symm

theorem addIcc_v_of_add (a b : Word) : (addIcc a b (a + b)).v = signedOverflow (a.toInt + b.toInt) := by
  rw [addIcc_v (add_eq_add_carryWord a b), Bool.toNat_false, Nat.cast_zero, add_zero]

theorem subIcc_v_of_sub (a b : Word) : (subIcc a b (a - b)).v = signedOverflow (a.toInt - b.toInt) := by
  rw [subIcc_v (sub_eq_sub_carryWord a b), Bool.toNat_false, Nat.cast_zero, sub_zero]

/-! ## Results and logical codes -/

/-- Settles O11: each instruction has its opcode by its format and ends in its result. -/
theorem addSubAndOrXorResults : Obligations.AddSubAndOrXorResults := by
  intro s rd rs1 src i op3 v hrow
  obtain ⟨hencode, hexec⟩ : encode i = format3 0b10#2 rd op3 rs1 (operand2Low src) ∧ exec i s = .next (s.result rd v) := by
    simp only [List.mem_cons, List.not_mem_nil, or_false, Prod.mk.injEq] at hrow
    rcases hrow with ⟨rfl, rfl, rfl⟩ | ⟨rfl, rfl, rfl⟩ | ⟨rfl, rfl, rfl⟩ | ⟨rfl, rfl, rfl⟩ | ⟨rfl, rfl, rfl⟩ <;>
      exact ⟨rfl, rfl⟩
  obtain ⟨hop, hop3⟩ := opcode_of_encode hencode
  obtain ⟨t, ht, ⟨hvalue, -⟩, hregs, hmem⟩ := frame_of_exec_result hexec
  exact ⟨hop, hop3, t, ht, hvalue, hregs, hmem⟩

/-- Settles O13: each instruction has its opcode by its format and ends in its result with the codes of `logicIcc`. -/
theorem andOrXorSetCodes : Obligations.AndOrXorSetCodes := by
  intro s rd rs1 src i op3 v hrow
  obtain ⟨hencode, hexec⟩ : encode i = format3 0b10#2 rd op3 rs1 (operand2Low src) ∧
      exec i s = .next (s.resultCc rd v (logicIcc v)) := by
    simp only [List.mem_cons, List.not_mem_nil, or_false, Prod.mk.injEq] at hrow
    rcases hrow with ⟨rfl, rfl, rfl⟩ | ⟨rfl, rfl, rfl⟩ | ⟨rfl, rfl, rfl⟩ <;> exact ⟨rfl, rfl⟩
  obtain ⟨hop, hop3⟩ := opcode_of_encode hencode
  rw [← logicIcc_eq]
  exact ⟨hop, hop3, frame_of_exec_resultCc hexec⟩

/-! ## Additions and subtractions that set the codes -/

/-- Settles O14: without a carry-in the sum is that of the carry-in 0, so that both instructions end as one addition. -/
theorem additionSetsCodes : Obligations.AdditionSetsCodes := by
  intro s rd rs1 src i cin hrow
  obtain ⟨r, hr, hexec⟩ : ∃ r, r = s.reg rs1 + s.operand2 src + carryWord cin ∧
      exec i s = .next (s.resultCc rd r (addIcc (s.reg rs1) (s.operand2 src) r)) := by
    simp only [List.mem_cons, List.not_mem_nil, or_false, Prod.mk.injEq] at hrow
    rcases hrow with ⟨rfl, rfl⟩ | ⟨rfl, rfl⟩
    · exact ⟨_, add_eq_add_carryWord _ _, rfl⟩
    · exact ⟨_, rfl, rfl⟩
  obtain ⟨t, ht, hreg, hicc, hmem⟩ := frame_of_exec_resultCc hexec
  rw [← add_add_carryWord, ← hr]
  exact ⟨t, _, ht, hreg, hicc, hmem, addCodes_addIcc hr, addIcc_v hr⟩

/-- Settles O15: without a borrow-in the difference is that of the borrow-in 0, so that both instructions end as one subtraction. -/
theorem subtractionSetsCodes : Obligations.SubtractionSetsCodes := by
  intro s rd rs1 src i cin hrow
  obtain ⟨r, hr, hexec⟩ : ∃ r, r = s.reg rs1 - s.operand2 src - carryWord cin ∧
      exec i s = .next (s.resultCc rd r (subIcc (s.reg rs1) (s.operand2 src) r)) := by
    simp only [List.mem_cons, List.not_mem_nil, or_false, Prod.mk.injEq] at hrow
    rcases hrow with ⟨rfl, rfl⟩ | ⟨rfl, rfl⟩
    · exact ⟨_, sub_eq_sub_carryWord _ _, rfl⟩
    · exact ⟨_, rfl, rfl⟩
  obtain ⟨t, ht, hreg, hicc, hmem⟩ := frame_of_exec_resultCc hexec
  rw [← sub_sub_carryWord, ← hr]
  exact ⟨t, _, ht, hreg, hicc, hmem, subCodes_subIcc hr, subIcc_v hr⟩

/-! ## Tagged forms -/

/-- A tag of two bits is bad when 4 does not divide the operand (R314; log 8). -/
theorem tagBad_eq_tagged (a b : Word) : tagBad a b = tagged a b := by
  rw [Bool.eq_iff_iff, tagBad, tagged, Bool.or_eq_true, lowBits_ne_zero_iff, lowBits_ne_zero_iff, decide_eq_true_eq]
  exact Iff.rfl

theorem taggedAddIcc_v (a b : Word) :
    (taggedAddIcc a b).v = (signedOverflow (a.toInt + b.toInt) || tagged a b) := by
  rw [← addIcc_v_of_add, ← tagBad_eq_tagged]
  rfl

theorem taggedSubIcc_v (a b : Word) :
    (taggedSubIcc a b).v = (signedOverflow (a.toInt - b.toInt) || tagged a b) := by
  rw [← subIcc_v_of_sub, ← tagBad_eq_tagged]
  rfl

/-- The codes but V are those of the addition. -/
theorem addCodes_taggedAddIcc (a b : Word) : AddCodes a b false (taggedAddIcc a b) :=
  addCodes_addIcc (add_eq_add_carryWord a b)

theorem subCodes_taggedSubIcc (a b : Word) : SubCodes a b false (taggedSubIcc a b) :=
  subCodes_subIcc (sub_eq_sub_carryWord a b)

theorem State.taggedTrap_eq (s : State) (rd : RegNum) (v : Word) (f : Icc) :
    s.taggedTrap rd v f = if f.v = true then s.raise .tagOverflow else s.resultCc rd v f := by
  rw [State.taggedTrap, State.attempt_cons, State.attempt_nil]

/-- Settles O16: both forms compute one result and its codes; the trapping one asks V of them. -/
theorem taggedFormsSetCodesOrTrap : Obligations.TaggedFormsSetCodesOrTrap := by
  intro s rd rs1 src i itv v bad codes hrow
  obtain ⟨f, hplain, htrapping, hcodes, rfl⟩ : ∃ f,
      exec i s = .next (s.resultCc rd v f) ∧ exec itv s = .next (s.taggedTrap rd v f) ∧ codes f ∧ f.v = bad := by
    simp only [List.mem_cons, List.not_mem_nil, or_false, Prod.mk.injEq] at hrow
    rcases hrow with ⟨rfl, rfl, rfl, rfl, rfl⟩ | ⟨rfl, rfl, rfl, rfl, rfl⟩
    · exact ⟨_, rfl, rfl, addCodes_taggedAddIcc _ _, taggedAddIcc_v _ _⟩
    · exact ⟨_, rfl, rfl, subCodes_taggedSubIcc _ _, taggedSubIcc_v _ _⟩
  rw [State.taggedTrap_eq] at htrapping
  refine ⟨?_, fun hgood => ?_, fun hbad => ?_⟩
  · obtain ⟨t, ht, hreg, hicc, hmem⟩ := frame_of_exec_resultCc hplain
    exact ⟨t, f, ht, hreg, hicc, hmem, hcodes, rfl⟩
  · rw [if_neg (ne_true_of_eq_false hgood)] at htrapping
    obtain ⟨t, ht, hreg, hicc, hmem⟩ := frame_of_exec_resultCc htrapping
    exact ⟨t, f, ht, hreg, hicc, hmem, hcodes, hgood⟩
  · rwa [if_pos hbad] at htrapping

/-! ## The multiply step -/

/-- A word shifted right by one, a bit entering at the top. -/
theorem toNat_shiftIn (top : Bool) (a : Word) :
    (BitVec.ofBool top ++ a.extractLsb' 1 31 : BitVec (1 + 31)).toNat = top.toNat * 2 ^ 31 + a.toNat / 2 := by
  have ha : a.toNat / 2 < 2 ^ 31 := by omega
  rw [BitVec.toNat_append, BitVec.toNat_ofBool, BitVec.extractLsb'_toNat, Nat.shiftRight_eq_div_pow, pow_one,
    Nat.mod_eq_of_lt ha, ← Nat.shiftLeft_add_eq_or_of_lt ha, Nat.shiftLeft_eq]

theorem toNat_getLsbD_zero (a : Word) : (a.getLsbD 0).toNat = a.toNat % 2 := by
  rw [BitVec.getLsbD, Nat.toNat_testBit, pow_zero, Nat.div_one]

/-- The first operand of the step, by integers (R340; log 9). -/
theorem State.mulStepLeft_eq (s : State) (a : Word) :
    s.mulStepLeft a = BitVec.ofNat 32 ((if (s.psr.icc.n ^^ s.psr.icc.v) = true then 2 ^ 31 else 0) + a.toNat / 2) := by
  have hleft : (s.mulStepLeft a).toNat = (s.psr.icc.n ^^ s.psr.icc.v).toNat * 2 ^ 31 + a.toNat / 2 := toNat_shiftIn _ a
  have htop : (s.psr.icc.n ^^ s.psr.icc.v).toNat * 2 ^ 31 = if (s.psr.icc.n ^^ s.psr.icc.v) = true then 2 ^ 31 else 0 := by
    cases s.psr.icc.n ^^ s.psr.icc.v <;> rfl
  rw [← htop, ← hleft, BitVec.ofNat_toNat, BitVec.setWidth_eq]

/-- The second operand is added when Y is odd (R340). -/
theorem State.mulStepRight_eq (s : State) (b : Word) : s.mulStepRight b = if s.y.toNat % 2 = 1 then b else 0#32 := by
  have hodd : s.y.getLsbD 0 = true ↔ s.y.toNat % 2 = 1 := by rw [← toNat_getLsbD_zero, Bool.toNat_eq_one]
  simp only [State.mulStepRight, hodd]

/-- Settles O17: the step writes Y, whose new value holds the bit shifted out, and then ends as an addition. -/
theorem multiplyStepAddsAndShifts : Obligations.MultiplyStepAddsAndShifts := by
  intro s rd rs1 src high left right
  have hleft : s.mulStepLeft (s.reg rs1) = left := s.mulStepLeft_eq (s.reg rs1)
  have hright : s.mulStepRight (s.operand2 src) = right := s.mulStepRight_eq (s.operand2 src)
  obtain ⟨y, hy, hexec⟩ : ∃ y : Word, y.toNat = (s.reg rs1).toNat % 2 * 2 ^ 31 + s.y.toNat / 2 ∧
      exec (.mulscc rd rs1 src) s = .next ((s.updateY y).resultCc rd (left + right) (addIcc left right (left + right))) := by
    rw [← toNat_getLsbD_zero, ← hleft, ← hright]
    exact ⟨_, toNat_shiftIn _ s.y, rfl⟩
  exact ⟨_, _, hexec, (s.updateY y).writesReg_resultCc rd _ _, hy, addCodes_addIcc (add_eq_add_carryWord left right),
    addIcc_v_of_add left right, rfl, State.memKept_of_mem_eq rfl⟩

/-! ## Shifts -/

theorem shiftLeft_eq_ofNat (a : Word) (n : Nat) : a <<< n = BitVec.ofNat 32 (a.toNat * 2 ^ n) := by
  rw [← BitVec.toNat_inj, BitVec.toNat_shiftLeft, BitVec.toNat_ofNat, Nat.shiftLeft_eq]

theorem ushiftRight_eq_ofNat (a : Word) (n : Nat) : a >>> n = BitVec.ofNat 32 (a.toNat / 2 ^ n) := by
  rw [← Nat.shiftRight_eq_div_pow, ← BitVec.toNat_ushiftRight, BitVec.ofNat_toNat, BitVec.setWidth_eq]

/-- The arithmetic shift divides and rounds down (R337). -/
theorem sshiftRight_eq_ofInt (a : Word) (n : Nat) : a.sshiftRight n = BitVec.ofInt 32 (a.toInt / 2 ^ n) := by
  rw [BitVec.sshiftRight_eq, Int.shiftRight_eq_div_pow, Nat.cast_pow, Nat.cast_ofNat]

/-- The count of a register is its low five bits (R162; log 5). -/
theorem State.shiftCount_reg (s : State) (rs2 : RegNum) : s.shiftCount (.reg rs2) = (s.reg rs2).toNat % 32 := by
  rw [State.shiftCount, BitVec.extractLsb'_toNat, Nat.shiftRight_zero]

/-- Settles O18: each shift ends in its result, a product or a quotient by 2^n. -/
theorem shiftsMultiplyAndDivide : Obligations.ShiftsMultiplyAndDivide := by
  intro s rd rs1 cnt n i v hn hrow
  have hcount : s.shiftCount cnt = n := by
    cases cnt with
    | reg rs2 => rw [hn, s.shiftCount_reg]
    | imm shcnt => rw [hn]; rfl
  refine frame_of_exec_result ?_
  simp only [List.mem_cons, List.not_mem_nil, or_false, Prod.mk.injEq] at hrow
  rcases hrow with ⟨rfl, rfl⟩ | ⟨rfl, rfl⟩ | ⟨rfl, rfl⟩
  · rw [← shiftLeft_eq_ofNat, ← hcount]
    rfl
  · rw [← ushiftRight_eq_ofNat, ← hcount]
    rfl
  · rw [← sshiftRight_eq_ofInt, ← hcount]
    rfl

/-! ## SETHI -/

theorem sethiValue_eq (imm22 : BitVec 22) : sethiValue imm22 = BitVec.ofNat 32 (imm22.toNat * 1024) := by
  have hvalue : (sethiValue imm22).toNat = imm22.toNat * 1024 := by
    rw [sethiValue, BitVec.toNat_append, BitVec.toNat_ofNat, Nat.zero_mod, Nat.or_zero, Nat.shiftLeft_eq]
  rw [← hvalue, BitVec.ofNat_toNat, BitVec.setWidth_eq]

theorem exec_sethi (rd : RegNum) (imm22 : BitVec 22) (s : State) :
    exec (.sethi rd imm22) s =
      .next (if s.pins.flowEnabled && rd == 0#5 then s.flowCheck imm22 else s.result rd (sethiValue imm22)) := rfl

/-- Settles O19: a SETHI that is no check ends in its result. -/
theorem sethiLoadsHighBits : Obligations.SethiLoadsHighBits := by
  intro s rd imm22 hplain
  have hno : (s.pins.flowEnabled && rd == 0#5) = false := by
    rcases hplain with hoff | hne
    · rw [hoff, Bool.false_and]
    · rw [beq_false_of_ne hne, Bool.and_false]
  refine frame_of_exec_result ?_
  rw [exec_sethi, if_neg (ne_true_of_eq_false hno), sethiValue_eq]

end Sys2Proof.Machine

/-! The statements on control transfer (spec 43_control_transfer.md). Three facts are said once: where a delayed transfer goes
(`State.transfer_target`), what a branch leaves (`State.branch_frame` and the lemmas after it), and that a row of a table of
conditions is what the decoder and the tests make of one value of the condition field (`iccRow`, `unitRow`). -/

namespace Sys2Proof.Machine

/-! ## Displacements -/

theorem toInt_append_two_zeros {n : Nat} (hn : n ≠ 0) (disp : BitVec n) : (disp ++ 0#2).toInt = 4 * disp.toInt := by
  simp [BitVec.toInt_append, hn]

/-- A displacement counts words, with its sign (30_encoding.md R161). -/
theorem branchOffset_eq_ofInt (disp22 : BitVec 22) : branchOffset disp22 = BitVec.ofInt 32 (4 * disp22.toInt) := by
  rw [branchOffset, BitVec.signExtend, toInt_append_two_zeros (by decide)]

theorem callOffset_eq_ofInt (disp30 : BitVec 30) : callOffset disp30 = BitVec.ofInt 32 (4 * disp30.toInt) := by
  rw [callOffset, ← toInt_append_two_zeros (by decide), BitVec.ofInt_toInt]

theorem State.branchTarget_eq (s : State) (disp22 : BitVec 22) :
    s.branchTarget disp22 = s.pc + s.ctiBase + BitVec.ofInt 32 (4 * disp22.toInt) := by
  rw [State.branchTarget, branchOffset_eq_ofInt]

/-! ## Delayed transfers and branches -/

/-- A delayed transfer goes to its target; as the second of a couple, to a free word address (R362, R365; log 19). -/
theorem State.transfer_target (s : State) (target : Word) :
    (s.prev ≠ .condBranch → (s.transfer target).free = s.free ∧ (s.transfer target).npc = target) ∧
      (s.prev = .condBranch → wordAligned (s.transfer target).npc) := by
  refine ⟨fun hprev => ⟨if_neg hprev, State.transfer_npc_of_ne target hprev⟩, fun hprev => ?_⟩
  simp only [State.transfer, if_pos hprev]
  exact wordAligned_append _

section
variable (s : State) (always taken a : Bool) (disp22 : BitVec 22)

theorem State.branch_frame :
    s.branch always taken a disp22 =
      { s with
        pc := s.npc, npc := (s.branch always taken a disp22).npc, annul := (s.branch always taken a disp22).annul
        prev := (s.branch always taken a disp22).prev, free := (s.branch always taken a disp22).free } := rfl

/-- The delay instruction is annulled by the a bit, unless the branch is conditional and taken (R363). -/
theorem State.branch_annul_iff :
    (s.branch always taken a disp22).annul = true ↔ a = true ∧ (always = true ∨ taken = false) := by
  simp [State.branch]

theorem State.branch_prev : (s.branch always taken a disp22).prev = if always = true then .other else .condBranch := rfl

theorem State.branch_target :
    (s.prev ≠ .condBranch → (s.branch always taken a disp22).free = s.free ∧
      (s.branch always taken a disp22).npc =
        if taken then s.pc + s.ctiBase + BitVec.ofInt 32 (4 * disp22.toInt) else s.npc + 4#32) ∧
      (s.prev = .condBranch → wordAligned (s.branch always taken a disp22).npc) := by
  rw [← s.branchTarget_eq]
  exact s.transfer_target _

end

/-! ## The integer conditions -/

/-- What the condition field selects of Bicc, of Ticc and of their test (R371). -/
def iccRow (cond : BitVec 4) : (Bool → BitVec 22 → Instr) × (RegNum → Operand2 → Instr) × (Icc → Bool) :=
  (decodeBicc cond, decodeTicc cond, iccTest cond)

/-- The table of the conditions is in the order of the field. -/
theorem iccConditions_eq : iccConditions = (List.range 16).map fun n => iccRow (BitVec.ofNat 4 n) := rfl

theorem exists_iccRow_of_mem {row : (Bool → BitVec 22 → Instr) × (RegNum → Operand2 → Instr) × (Icc → Bool)}
    (h : row ∈ iccConditions) : ∃ cond, row = iccRow cond := by
  rw [iccConditions_eq, List.mem_map] at h
  obtain ⟨n, -, rfl⟩ := h
  exact ⟨_, rfl⟩

theorem exec_decodeBicc (cond : BitVec 4) (a : Bool) (disp22 : BitVec 22) (s : State) :
    exec (decodeBicc cond a disp22) s = .next (s.branchIcc cond a disp22) := by
  obtain ⟨⟨n, hn⟩⟩ := cond
  interval_cases n <;> rfl

theorem exec_decodeTicc (cond : BitVec 4) (rs1 : RegNum) (src : Operand2) (s : State) :
    exec (decodeTicc cond rs1 src) s = .next (s.trapIcc cond rs1 src) := by
  obtain ⟨⟨n, hn⟩⟩ := cond
  interval_cases n <;> rfl

/-- BA is the Bicc of one condition, which its word shows (R370). -/
theorem decodeBicc_eq_ba_iff (cond : BitVec 4) (a : Bool) (disp22 : BitVec 22) :
    decodeBicc cond a disp22 = .ba a disp22 ↔ cond = 0b1000#4 := by
  refine ⟨fun h => ?_, fun h => by rw [h]; rfl⟩
  have hword : branchWord a cond 0b010#3 disp22 = branchWord a 0b1000#4 0b010#3 disp22 := by
    rw [← encode_decodeBicc, h]
    rfl
  rw [← condField_branchWord a cond, hword, condField_branchWord]

/-- Settles O31: each row is the Bicc of one condition, and ends in `State.branch`. -/
theorem integerBranchesTransfer : Obligations.IntegerBranchesTransfer := by
  intro s a disp22
  refine ⟨rfl, fun row hrow => ?_⟩
  obtain ⟨cond, rfl⟩ := exists_iccRow_of_mem hrow
  intro taken always
  have halways : always ↔ (cond == 0b1000#4) = true := by
    rw [beq_iff_eq]
    exact decodeBicc_eq_ba_iff cond a disp22
  refine ⟨s.branch (cond == 0b1000#4) taken a disp22, exec_decodeBicc cond a disp22 s, s.branch_frame .., ?_, fun h => ?_,
    fun h => ?_, s.branch_target ..⟩
  · rw [State.branch_annul_iff, halways]
  · rw [State.branch_prev, if_pos (halways.1 h)]
  · rw [State.branch_prev, if_neg (mt halways.2 h)]

/-! ## Trap instructions -/

theorem toNat_tt_trapInstruction (n : BitVec 7) : (Trap.trapInstruction n).tt.toNat = 128 + n.toNat := by
  rw [Trap.tt, BitVec.toNat_append, ← Nat.shiftLeft_add_eq_or_of_lt n.isLt]
  rfl

theorem State.trapNumber_toNat (s : State) (rs1 : RegNum) (src : Operand2) :
    (s.trapNumber rs1 src).toNat = (s.reg rs1 + s.operand2 src).toNat % 128 := by
  rw [State.trapNumber, BitVec.extractLsb'_toNat, Nat.shiftRight_zero]
  rfl

/-- The Ticc of a row takes its trap, or ends as a NOP. -/
theorem exec_iccRow_ticc (cond : BitVec 4) (rs1 : RegNum) (src : Operand2) (s : State) :
    exec ((iccRow cond).2.1 rs1 src) s = .next (
      if (iccRow cond).2.2 s.psr.icc = true then s.raise (.trapInstruction (s.trapNumber rs1 src)) else s.advance) := by
  have hexec := exec_decodeTicc cond rs1 src s
  rw [State.trapIcc, State.attempt_cons, State.attempt_nil] at hexec
  exact hexec

/-- Settles O36: each row is the Ticc of one condition, whose only trap is its own. -/
theorem trapInstructionsTest : Obligations.TrapInstructionsTest := by
  intro s rs1 src row hrow
  obtain ⟨cond, rfl⟩ := exists_iccRow_of_mem hrow
  rw [exec_iccRow_ticc]
  refine ⟨fun hfails => ?_, fun hholds => ⟨_, s.trapNumber rs1 src, by rw [if_pos hholds], rfl, ?_⟩⟩
  · rw [if_neg (ne_true_of_eq_false hfails)]
    rfl
  · rw [State.raise_tbr, toNat_tt_trapInstruction, State.trapNumber_toNat]

/-! ## The conditions of the units -/

/-- What the condition field selects of FBfcc, of CBccc and of the codes for which both are taken (R375, R377). -/
def unitRow (cond : BitVec 4) : (Bool → BitVec 22 → Instr) × (Bool → BitVec 22 → Instr) × List Nat :=
  (decodeFBfcc cond, decodeCBccc cond, (ccTaken cond).map BitVec.toNat)

theorem unitConditions_eq : unitConditions = (List.range 16).map fun n => unitRow (BitVec.ofNat 4 n) := rfl

theorem exists_unitRow_of_mem {row : (Bool → BitVec 22 → Instr) × (Bool → BitVec 22 → Instr) × List Nat}
    (h : row ∈ unitConditions) : ∃ cond, row = unitRow cond := by
  rw [unitConditions_eq, List.mem_map] at h
  obtain ⟨n, -, rfl⟩ := h
  exact ⟨_, rfl⟩

theorem exec_decodeFBfcc (cond : BitVec 4) (a : Bool) (disp22 : BitVec 22) (s : State) :
    exec (decodeFBfcc cond a disp22) s = .next (s.branchUnit .fpu cond a disp22) := by
  obtain ⟨⟨n, hn⟩⟩ := cond
  interval_cases n <;> rfl

theorem exec_decodeCBccc (cond : BitVec 4) (a : Bool) (disp22 : BitVec 22) (s : State) :
    exec (decodeCBccc cond a disp22) s = .next (s.branchUnit .cp cond a disp22) := by
  obtain ⟨⟨n, hn⟩⟩ := cond
  interval_cases n <;> rfl

theorem exec_unitBranch (u : UnitId) (cond : BitVec 4) (a : Bool) (disp22 : BitVec 22) (s : State) :
    exec (unitBranch u (unitRow cond) a disp22) s = .next (s.branchUnit u cond a disp22) := by
  cases u with
  | fpu => exact exec_decodeFBfcc cond a disp22 s
  | cp => exact exec_decodeCBccc cond a disp22 s

/-- Different conditions are different FBfcc, which their words show (R374). -/
theorem decodeFBfcc_injective : Function.Injective decodeFBfcc := fun cond cond' h => by
  have hword : branchWord false cond 0b110#3 0#22 = branchWord false cond' 0b110#3 0#22 := by
    rw [← encode_decodeFBfcc, h, encode_decodeFBfcc]
  rw [← condField_branchWord false cond, hword, condField_branchWord]

theorem ccTest_eq (cond : BitVec 4) (cc : BitVec 2) : ccTest cond cc = (unitRow cond).2.2.contains cc.toNat := by
  rw [Bool.eq_iff_iff, ccTest, List.contains_iff_mem, List.contains_iff_mem, unitRow,
    List.mem_map_of_injective fun _ _ => BitVec.eq_of_toNat_eq]

theorem ccTest_never (cc : BitVec 2) : ccTest 0b0000#4 cc = false := rfl

theorem ccTest_always (cc : BitVec 2) : ccTest 0b1000#4 cc = true := by revert cc; decide

/-! ## The traps of the units -/

theorem State.attempt_operateTraps (s : State) (u : UnitId) (done : State) :
    s.attempt (s.operateTraps u) done =
      if s.unitDisabled u = true then s.raise (disabledTrap u)
      else if (s.unit u).excPending = true then s.raise (exceptionTrap u)
      else done := by
  rw [State.operateTraps, State.attempt_cons, State.attempt_cons, State.attempt_nil]

theorem exec_fpOperates {rd rs1 : RegNum} {opf : BitVec 9} {rs2 : RegNum} {i : Instr} (h : i ∈ fpOperates rd rs1 opf rs2)
    (s : State) : ∃ done, exec i s = .next (s.attempt (s.operateTraps .fpu) done) := by
  fin_cases h <;> exact ⟨_, rfl⟩

theorem exec_cpOperates {rd rs1 : RegNum} {opc : BitVec 9} {rs2 : RegNum} {i : Instr} (h : i ∈ cpOperates rd rs1 opc rs2)
    (s : State) : ∃ done, exec i s = .next (s.attempt (s.operateTraps .cp) done) := by
  fin_cases h <;> exact ⟨_, rfl⟩

/-- Settles O50: each of these instructions tries the traps of its unit before anything else. -/
theorem operateTrapsInOrder : Obligations.OperateTrapsInOrder := by
  intro s rd rs1 opf rs2 a disp22 u i
  refine ⟨by simp [State.unitDisabled], by simp [State.unitDisabled], fun hi => ?_⟩
  obtain ⟨done, hexec⟩ : ∃ done, exec i s = .next (s.attempt (s.operateTraps u) done) := by
    rcases hi with ⟨rfl, hi⟩ | ⟨rfl, hi⟩ | ⟨row, hrow, rfl⟩
    · exact exec_fpOperates hi s
    · exact exec_cpOperates hi s
    · obtain ⟨cond, rfl⟩ := exists_unitRow_of_mem hrow
      exact ⟨_, exec_unitBranch u cond a disp22 s⟩
  rw [State.attempt_operateTraps, disabledTrap_eq, exceptionTrap_eq] at hexec
  refine ⟨fun hdis => ?_, fun hdis hpend => ?_⟩
  · rw [hexec, if_pos hdis]
  · rw [hexec, if_neg (ne_true_of_eq_false hdis), if_pos hpend]

/-! ## Branches on the codes of a unit -/

/-- The codes tested are those of the unit; too early after a compare, where the parameter leaves that open, a free value (R378,
R449; log 33). -/
theorem State.branchCc_cases (s : State) (u : UnitId) (cond : BitVec 4) (a : Bool) (disp22 : BitVec 22) :
    ∃ k cc, s.branchCc u cond a disp22 = { s with free := k }.branch (cond == 0b1000#4) (ccTest cond cc) a disp22 ∧
      (¬(s.params.earlyBranchOpen = true ∧ s.branchTooEarly u = true) → k = s.free ∧ cc = (s.unit u).cc) := by
  unfold State.branchCc
  split
  · next hearly => exact ⟨_, _, rfl, fun h => absurd (Bool.and_eq_true_iff.1 hearly) h⟩
  · exact ⟨_, _, rfl, fun _ => ⟨rfl, rfl⟩⟩

/-- Settles O32: each row is the branch of one condition for each unit, and ends in `State.branch` on codes known by
`State.branchCc_cases`. -/
theorem unitBranchesTransfer : Obligations.UnitBranchesTransfer := by
  intro s u a disp22 row hrow hdis hpend always early
  obtain ⟨cond, rfl⟩ := exists_unitRow_of_mem hrow
  have halways : always ↔ (cond == 0b1000#4) = true := by
    rw [beq_iff_eq]
    exact decodeFBfcc_injective.eq_iff (b := 0b1000#4)
  have hnever : (unitRow cond).1 = .fbn ↔ cond = 0b0000#4 := decodeFBfcc_injective.eq_iff (b := 0b0000#4)
  have hearly : early ↔ s.params.earlyBranchOpen = true ∧ s.branchTooEarly u = true := by
    cases u <;> simp [early, State.branchTooEarly]
  obtain ⟨k, cc, hbranch, hcodes⟩ := s.branchCc_cases u cond a disp22
  have hexec := exec_unitBranch u cond a disp22 s
  rw [State.branchUnit, State.attempt_operateTraps, if_neg (ne_true_of_eq_false hdis), if_neg (ne_true_of_eq_false hpend),
    hbranch] at hexec
  rw [← hearly] at hcodes
  obtain ⟨hsingle, hcouple⟩ := State.branch_target { s with free := k } (cond == 0b1000#4) (ccTest cond cc) a disp22
  refine ⟨_, ccTest cond cc, hexec, rfl, ?_, fun h => ⟨?_, ?_⟩, fun h => ?_, fun h => ?_, fun h => ⟨?_, fun hprev => ?_⟩,
    fun hprev => (hsingle hprev).2, hcouple⟩
  · rw [State.branch_annul_iff, halways]
  · rw [eq_of_beq (halways.1 h), ccTest_always]
  · rw [State.branch_prev, if_pos (halways.1 h)]
  · rw [State.branch_prev, if_neg (mt halways.2 h)]
  · rw [hnever.1 h, ccTest_never]
  · rw [ccTest_eq, (hcodes h).2]
  · rw [(hsingle hprev).1, (hcodes h).1]

/-! ## CALL and JMPL -/

/-- What a transfer that links leaves: its own address in r[rd], and the counters of the transfer (R380, R384). -/
theorem State.frame_link (s : State) (rd : RegNum) (target : Word) :
    let t := (s.setReg rd s.pc).transfer target
    WritesReg s t s.psr.cwp rd s.pc ∧ MemKept s t ∧
      t = { s with
            globals := t.globals, windows := t.windows, pc := s.npc, npc := t.npc, prev := .other, free := t.free } ∧
      (s.prev ≠ .condBranch → t.free = s.free ∧ t.npc = target) ∧ (s.prev = .condBranch → wordAligned t.npc) :=
  ⟨(writesReg_setRegIn s s.psr.cwp rd s.pc).congr rfl rfl, State.memKept_of_mem_eq rfl, rfl,
    (s.setReg rd s.pc).transfer_target target⟩

theorem exec_call (disp30 : BitVec 30) (s : State) :
    exec (.call disp30) s = .next ((s.setReg 15#5 s.pc).transfer (s.pc + s.ctiBase + callOffset disp30)) := rfl

theorem exec_jmpl (rd rs1 : RegNum) (src : Operand2) (s : State) :
    exec (.jmpl rd rs1 src) s = .next (
      if (s.reg rs1 + s.operand2 src).toNat % 4 ≠ 0 then s.raise .notAligned
      else (s.setReg rd s.pc).transfer (s.reg rs1 + s.operand2 src)) := by
  show Host.Outcome.next (s.attempt [(misaligned .word (s.ea rs1 src), .notAligned)] _) = _
  simp only [State.ea, State.attempt_cons, State.attempt_nil, misaligned_word_iff]

/-- Settles O33: both end in a transfer that links, JMPL unless its target is misaligned. -/
theorem callAndJmplLink : Obligations.CallAndJmplLink := by
  intro s rd rs1 src disp30 links
  refine ⟨⟨_, exec_call disp30 s, ?_⟩, fun halign => ⟨_, ?_, s.frame_link rd _⟩, fun halign => ?_⟩
  · rw [callOffset_eq_ofInt]
    exact s.frame_link 15#5 _
  · rw [exec_jmpl, if_neg (not_not_intro halign)]
  · rw [exec_jmpl, if_pos halign]

/-! ## SAVE and RESTORE -/

theorem State.moveWindow_eq (s : State) (cwp : Window) (invalid : Trap) (rd : RegNum) (v : Word) :
    s.moveWindow cwp invalid rd v =
      if s.wim.getLsbD cwp.toNat = true then s.raise invalid
      else ((s.updatePsr fun p => { p with cwp := cwp }).setReg rd v).advance := by
  rw [State.moveWindow, State.attempt_cons, State.attempt_nil]
  rfl

/-- Settles O35: both move the window, each in its direction, with the operands of the old one. -/
theorem saveAndRestoreMoveWindow : Obligations.SaveAndRestoreMoveWindow := by
  intro s rd rs1 src i cwp trap hrow
  have hexec : exec i s = .next (s.moveWindow cwp trap rd (s.reg rs1 + s.operand2 src)) := by
    simp only [List.mem_cons, List.not_mem_nil, or_false, Prod.mk.injEq] at hrow
    rcases hrow with ⟨rfl, rfl, rfl⟩ | ⟨rfl, rfl, rfl⟩ <;> rfl
  rw [State.moveWindow_eq] at hexec
  refine ⟨fun hvalid => ?_, fun hinvalid => ?_⟩
  · rw [if_neg (ne_true_of_eq_false hvalid)] at hexec
    exact ⟨_, hexec, (writesReg_setRegIn s cwp rd _).congr rfl rfl, State.memKept_of_mem_eq rfl, rfl⟩
  · rw [hexec, if_pos hinvalid]

end Sys2Proof.Machine

/-! The statements on the control registers (spec 44_control_registers.md). A read ends in `State.result`, with the register as a
word, whose layout is a sum of fields in their places; a write ends in `State.controlWritten`. -/

namespace Sys2Proof.Machine

/-! ## Privilege -/

theorem State.attempt_privilegeTraps (s done : State) :
    s.attempt s.privilegeTraps done = if s.psr.s = true then done else s.raise .privilegedInstruction := by
  rw [State.privilegeTraps, State.attempt_cons, State.attempt_nil]
  cases s.psr.s <;> rfl

/-- An instruction whose only trap is that of privilege (R420). -/
theorem exec_privileged {i : Instr} {s done : State} (h : exec i s = .next (s.attempt s.privilegeTraps done)) :
    (s.psr.s = true → exec i s = .next done) ∧ (s.psr.s = false → exec i s = .next (s.raise .privilegedInstruction)) := by
  rw [State.attempt_privilegeTraps] at h
  exact ⟨fun hs => by rw [h, if_pos hs], fun hs => by rw [h, if_neg (ne_true_of_eq_false hs)]⟩

/-! ## Layouts -/

/-- A field goes to its place by a power of two. -/
theorem toNat_append_eq_add {m n : Nat} (x : BitVec m) (y : BitVec n) : (x ++ y).toNat = x.toNat * 2 ^ n + y.toNat := by
  rw [BitVec.toNat_append, ← Nat.shiftLeft_add_eq_or_of_lt y.isLt, Nat.shiftLeft_eq]

/-- The PSR, its constants impl and ver and its reserved zeros included (10_state.md R56, R60 to R62; log 14). -/
theorem Psr.word_toNat (p : Psr) :
    p.word.toNat = 0x11000000 + p.icc.n.toNat * 2 ^ 23 + p.icc.z.toNat * 2 ^ 22 + p.icc.v.toNat * 2 ^ 21 +
      p.icc.c.toNat * 2 ^ 20 + p.ec.toNat * 2 ^ 13 + p.ef.toNat * 2 ^ 12 + p.pil.toNat * 2 ^ 8 + p.s.toNat * 2 ^ 7 +
      p.ps.toNat * 2 ^ 6 + p.et.toNat * 2 ^ 5 + p.cwp.toNat := by
  simp only [Psr.word, Config.impl, Config.ver, toNat_append_eq_add, BitVec.toNat_ofBool, BitVec.toNat_ofNat]
  omega

theorem State.wimWord_toNat (s : State) : s.wimWord.toNat = s.wim.toNat := by
  rw [State.wimWord, toNat_append_eq_add, BitVec.toNat_ofNat, Nat.zero_mod, Nat.zero_mul, Nat.zero_add]

theorem Tbr.word_toNat (t : Tbr) : t.word.toNat = t.tba.toNat * 2 ^ 12 + t.tt.toNat * 2 ^ 4 := by
  simp only [Tbr.word, toNat_append_eq_add, BitVec.toNat_ofNat]
  omega

/-! ## Reads -/

theorem exec_rdy (rd : RegNum) (s : State) : exec (.rdy rd) s = .next (s.result rd s.y) := rfl

/-- Settles O37: op3 alone selects the row of RDY, and RDY ends in its result. -/
theorem readYInEitherMode : Obligations.ReadYInEitherMode := by
  refine ⟨decodeRow_op10 fun w h => by rw [decodeOp10, h]; rfl, fun s rd => ?_⟩
  obtain ⟨t, ht, ⟨hvalue, -⟩, hregs, hmem⟩ := frame_of_exec_result (exec_rdy rd s)
  exact ⟨t, ht, hvalue, hregs, hmem⟩

/-- Settles O38: each of the three reads is privileged and ends in its result, the word of its register. -/
theorem controlRegistersReadByLayout : Obligations.ControlRegistersReadByLayout := by
  intro s rd i v
  obtain ⟨t, ht, ⟨-, hwritten⟩, -, -⟩ := frame_of_exec_result (exec_rdy rd s)
  refine ⟨⟨t, ht, hwritten⟩, fun hrow => ?_⟩
  have hexec : exec i s = .next (s.attempt s.privilegeTraps (s.result rd v)) := by
    simp only [List.mem_cons, List.not_mem_nil, or_false, Prod.mk.injEq] at hrow
    rcases hrow with ⟨rfl, rfl⟩ | ⟨rfl, rfl⟩ | ⟨rfl, rfl⟩
    · rw [← (BitVec.toNat_eq_nat.1 s.psr.word_toNat).2]
      rfl
    · rw [← (BitVec.toNat_eq_nat.1 s.wimWord_toNat).2]
      rfl
    · rw [← (BitVec.toNat_eq_nat.1 s.tbr.word_toNat).2]
      rfl
  obtain ⟨hsupervisor, huser⟩ := exec_privileged hexec
  exact ⟨fun hs => frame_of_exec_result (hsupervisor hs), huser⟩

/-! ## Writes -/

/-- A write goes on to the next instruction, and is seen at once or is the last of the late ones (R435; log 22). -/
theorem State.controlWritten_frame (s : State) (w : ControlWrite) :
    ∃ u : State, s.controlWritten w = { u with pc := s.npc, npc := s.npc + 4#32, prev := .other } ∧
      (s.params.wrDelay = 0 → u = s.setControls (s.controls.write w)) ∧
      (s.params.wrDelay ≠ 0 → u = { s with late := s.late ++ [{ left := s.params.wrDelay.val, write := w }] }) :=
  ⟨s.writeControl w, rfl, s.writeControl_now w, s.writeControl_late_of_ne w⟩

/-- WRTBR drops the twelve low bits (R433). -/
theorem tba_eq_ofNat (v : Word) : v.extractLsb' 12 20 = BitVec.ofNat 20 (v.toNat / 4096) := by
  rw [BitVec.extractLsb', Nat.shiftRight_eq_div_pow]

section
variable (rs1 : RegNum) (src : Operand2) (s : State)

theorem exec_wry : exec (.wry rs1 src) s = .next (s.controlWritten (.y (s.reg rs1 ^^^ s.operand2 src))) := rfl

theorem exec_wrwim :
    exec (.wrwim rs1 src) s =
      .next (s.attempt s.privilegeTraps (s.controlWritten (.wim (s.reg rs1 ^^^ s.operand2 src)))) := rfl

theorem exec_wrtbr :
    exec (.wrtbr rs1 src) s =
      .next (s.attempt s.privilegeTraps (s.controlWritten (.tbr (s.reg rs1 ^^^ s.operand2 src)))) := rfl

end

/-- Settles O39: each of the three ends in a write, two of them privileged; the late writes are seen one after the other. -/
theorem controlRegistersWrite : Obligations.ControlRegistersWrite := by
  intro s rs1 src v seen writes
  have hseen (t : State) (w : ControlWrite) : seen t w = t.setControls (t.controls.write w) := by
    cases w with
    | y _ | psr _ | wim _ => rfl
    | tbr w =>
      simp only [Controls.write, tba_eq_ofNat]
      rfl
  have hwrites {i w} (h : exec i s = .next (s.controlWritten w)) : writes i w := by
    obtain ⟨u, hu, hnow, hlate⟩ := s.controlWritten_frame w
    exact ⟨u, _, h, hu, fun h0 => (hnow h0).trans (hseen s w).symm, hlate⟩
  obtain ⟨hwim, hwimUser⟩ := exec_privileged (exec_wrwim rs1 src s)
  obtain ⟨htbr, htbrUser⟩ := exec_privileged (exec_wrtbr rs1 src s)
  refine ⟨hwrites (exec_wry rs1 src s), fun hs => ⟨hwrites (hwim hs), hwrites (htbr hs)⟩, fun hs => ⟨hwimUser hs, htbrUser hs⟩,
    fun hnil => ⟨s.tickLate_of_nil hnil, s.settleLate_of_nil hnil⟩, fun l rest hcons => ⟨fun hdue => ?_, fun hwaits => ?_, ?_⟩⟩
  · rw [s.tickLate_cons l rest hcons, if_pos hdue, hseen]
  · rw [s.tickLate_cons l rest hcons, if_neg hwaits]
  · rw [s.settleLate_cons l rest hcons, hseen]

/-! ## WRPSR -/

/-- A CWP of 8 or more is no window (R69, R431; log 21). -/
theorem noWindow_iff (v : Word) : 8#5 ≤ v.extractLsb' 0 5 ↔ 8 ≤ v.toNat % 32 := by
  rw [BitVec.le_def, BitVec.extractLsb'_toNat, Nat.shiftRight_zero]
  rfl

theorem State.attempt_wrpsrTraps (s : State) (v : Word) (done : State) :
    s.attempt (s.wrpsrTraps v) done =
      if 8 ≤ v.toNat % 32 then s.raise .illegalInstruction else s.attempt s.privilegeTraps done := by
  simp only [State.wrpsrTraps, State.attempt_cons, State.privilegeTraps, decide_eq_true_eq, noWindow_iff]

/-- The traps of WRPSR one after the other, and its write when there is none (R431; log 21). -/
theorem exec_wrpsr (rs1 : RegNum) (src : Operand2) (s : State) :
    exec (.wrpsr rs1 src) s = .next (
      if 8 ≤ (s.reg rs1 ^^^ s.operand2 src).toNat % 32 then s.raise .illegalInstruction
      else if s.psr.s = true then s.controlWritten (.psr (Psr.ofWord (s.reg rs1 ^^^ s.operand2 src)))
      else s.raise .privilegedInstruction) := by
  rw [← State.attempt_privilegeTraps, ← State.attempt_wrpsrTraps]
  rfl

theorem Psr.ofWord_pil_toNat (v : Word) : (Psr.ofWord v).pil.toNat = v.toNat / 256 % 16 := by
  rw [Psr.ofWord, BitVec.extractLsb'_toNat, Nat.shiftRight_eq_div_pow]

theorem Psr.ofWord_cwp_toNat (v : Word) : (Psr.ofWord v).cwp.toNat = v.toNat % 8 := by
  rw [Psr.ofWord, BitVec.extractLsb'_toNat, Nat.shiftRight_zero]

/-- A change of the PSR reaches no late write of another register (R640; log 22). -/
theorem LateWrite.afterPsr_of_not_psr (f : Psr → Psr) (k : Nat) (x : Word) {w : ControlWrite}
    (h : w ∈ [ControlWrite.y x, .wim x, .tbr x]) :
    LateWrite.afterPsr f { left := k, write := w } = { left := k, write := w } := by
  fin_cases h <;> rfl

/-- Settles O40: the order of the traps is that of `exec_wrpsr`, and the write is that of the fields of the word. -/
theorem writePsrSetsFields : Obligations.WritePsrSetsFields := by
  intro s rs1 src
  refine ⟨fun f k p x => ⟨rfl, rfl, rfl, rfl, rfl, fun w hw => LateWrite.afterPsr_of_not_psr f k x hw⟩, ?_⟩
  intro v
  have hexec := exec_wrpsr rs1 src s
  refine ⟨fun hcwp hs => ?_, fun hcwp => ?_, fun hcwp hs => ?_⟩
  · rw [if_neg (Nat.not_le.2 hcwp), if_pos hs] at hexec
    obtain ⟨u, hu, hnow, hlate⟩ := s.controlWritten_frame (.psr (Psr.ofWord v))
    exact ⟨u, _, Psr.ofWord v, hexec, hu, hnow, hlate, rfl, rfl, rfl, rfl, rfl, rfl, Psr.ofWord_pil_toNat v, rfl, rfl, rfl,
      Psr.ofWord_cwp_toNat v⟩
  · rw [hexec, if_pos hcwp]
  · rw [hexec, if_neg (Nat.not_le.2 hcwp), if_neg (ne_true_of_eq_false hs)]

end Sys2Proof.Machine

/-! The arithmetic of floating-point data (spec 45_fpop_cpop.md R480; log 28), by the rational numbers they stand for
(`FpVal.rat_num`). A datum counts units of a power of two, so that sums and comparisons are those of integers (`scaled_eq`). -/

namespace Sys2Proof.Machine

/-! ## Numbers -/

theorem FpVal.rat_num (neg : Bool) (m : Nat) (e : Int) : (FpVal.num neg m e).rat = some (signFactor neg * m * 2 ^ e) := rfl

theorem FpVal.rat_eq_some_iff {v : FpVal} {q : ℚ} :
    v.rat = some q ↔ ∃ neg m e, v = .num neg m e ∧ signFactor neg * m * 2 ^ e = q := by
  cases v with
  | nan | inf => simp [FpVal.rat]
  | num neg m e => simp [FpVal.rat_num]

theorem FpVal.isNumber_iff {v : FpVal} {neg : Bool} {q : ℚ} :
    v.IsNumber neg q ↔ ∃ m e, v = .num neg m e ∧ signFactor neg * m * 2 ^ e = q := by
  refine ⟨fun ⟨⟨m, e, hv⟩, hq⟩ => ⟨m, e, hv, ?_⟩, fun ⟨m, e, hv, hq⟩ => ⟨⟨m, e, hv⟩, ?_⟩⟩
  · rw [hv, FpVal.rat_num] at hq
    exact Option.some_injective _ hq
  · rw [hv, FpVal.rat_num, hq]

theorem signFactor_mul_self (neg : Bool) : signFactor neg * signFactor neg = 1 := by cases neg <;> norm_num [signFactor]

theorem signFactor_ne_zero (neg : Bool) : signFactor neg ≠ 0 := by cases neg <;> norm_num [signFactor]

theorem signFactor_not (neg : Bool) : signFactor (!neg) = -signFactor neg := by cases neg <;> norm_num [signFactor]

theorem signFactor_xor (a b : Bool) : signFactor (a ^^ b) = signFactor a * signFactor b := by
  cases a <;> cases b <;> norm_num [signFactor]

theorem exists_intCast_eq_signFactor (neg : Bool) : ∃ u : ℤ, signFactor neg = u := by
  cases neg
  · exact ⟨1, by norm_num [signFactor]⟩
  · exact ⟨-1, by norm_num [signFactor]⟩

theorem FpVal.rat_neg {v : FpVal} {q : ℚ} (h : v.rat = some q) : v.neg.rat = some (-q) := by
  obtain ⟨neg, m, e, rfl, rfl⟩ := FpVal.rat_eq_some_iff.1 h
  rw [FpVal.neg, FpVal.rat_num, signFactor_not, neg_mul, neg_mul]

/-! ## Units -/

/-- A power of two from a smaller one. -/
theorem two_zpow_split {unit e : Int} (h : unit ≤ e) : (2 : ℚ) ^ (e - unit).toNat * 2 ^ unit = 2 ^ e := by
  rw [← zpow_natCast, Int.toNat_of_nonneg (by omega), ← zpow_add₀ two_ne_zero, Int.sub_add_cancel]

theorem scaled_eq (neg : Bool) (m : Nat) {e unit : Int} (h : unit ≤ e) :
    (scaled neg m e unit : ℚ) * 2 ^ unit = signFactor neg * m * 2 ^ e := by
  have hcast : (scaled neg m e unit : ℚ) = signFactor neg * m * 2 ^ (e - unit).toNat := by
    cases neg <;> simp [scaled, signFactor]
  rw [hcast, mul_assoc, two_zpow_split h]

/-- An integer with its sign apart. -/
theorem signFactor_mul_natAbs (v : Int) : signFactor (decide (v < 0)) * (v.natAbs : ℚ) = v := by
  rw [Nat.cast_natAbs]
  rcases lt_or_ge v 0 with h | h
  · simp [signFactor, h, abs_of_neg h]
  · simp [signFactor, not_lt.2 h, abs_of_nonneg h]

/-! ## Sum, difference, product -/

/-- The sum is exact, and determined unless it is zero: of a zero the sign is that of the rounding mode. -/
theorem FpVal.add_exact {x y : FpVal} {a b : ℚ} (hx : x.rat = some a) (hy : y.rat = some b) :
    (∀ z, x.add y = some z → z.rat = some (a + b)) ∧ (a + b ≠ 0 → ∃ z, x.add y = some z) := by
  obtain ⟨s, m, e, rfl, rfl⟩ := FpVal.rat_eq_some_iff.1 hx
  obtain ⟨t, n, f, rfl, rfl⟩ := FpVal.rat_eq_some_iff.1 hy
  rw [← scaled_eq s m (min_le_left e f), ← scaled_eq t n (min_le_right e f), ← add_mul, ← Int.cast_add]
  simp only [FpVal.add]
  generalize scaled s m e (min e f) + scaled t n f (min e f) = v
  rcases eq_or_ne v 0 with rfl | hv
  · simp only [if_true]
    refine ⟨fun z hz => ?_, fun h => absurd (by simp) h⟩
    split at hz
    · cases hz
      simp [FpVal.rat_num]
    · cases hz
  · simp only [if_neg hv]
    refine ⟨fun z hz => ?_, fun _ => ⟨_, rfl⟩⟩
    cases hz
    rw [FpVal.rat_num, signFactor_mul_natAbs]

theorem FpVal.sub_exact {x y : FpVal} {a b : ℚ} (hx : x.rat = some a) (hy : y.rat = some b) :
    (∀ z, x.sub y = some z → z.rat = some (a - b)) ∧ (a - b ≠ 0 → ∃ z, x.sub y = some z) := by
  rw [sub_eq_add_neg]
  exact FpVal.add_exact hx (FpVal.rat_neg hy)

theorem FpVal.mul_exact {x y : FpVal} {a b : ℚ} (hx : x.rat = some a) (hy : y.rat = some b) :
    ∃ z, x.mul y = some z ∧ z.rat = some (a * b) := by
  obtain ⟨s, m, e, rfl, rfl⟩ := FpVal.rat_eq_some_iff.1 hx
  obtain ⟨t, n, f, rfl, rfl⟩ := FpVal.rat_eq_some_iff.1 hy
  refine ⟨_, rfl, ?_⟩
  rw [FpVal.rat_num, signFactor_xor, zpow_add₀ two_ne_zero, Nat.cast_mul]
  congr 1
  ring

/-! ## Quotient -/

/-- The largest power of two in a divisor, and the odd rest, as the model finds them. -/
theorem gcd_two_pow_log2 (k odd : Nat) (h : Odd odd) : Nat.gcd (2 ^ k * odd) (2 ^ (2 ^ k * odd).log2) = 2 ^ k := by
  have hpos : 2 ^ k * odd ≠ 0 := Nat.mul_ne_zero (by positivity) h.pos.ne'
  have hk : k ≤ (2 ^ k * odd).log2 := (Nat.le_log2 hpos).2 (Nat.le_mul_of_pos_right _ h.pos)
  obtain ⟨j, hj⟩ := Nat.exists_eq_add_of_le hk
  rw [hj, pow_add, Nat.gcd_mul_left, Nat.Coprime.gcd_eq_one (Nat.Coprime.pow_right j (Nat.coprime_two_right.2 h)), mul_one]

/-- An odd number divides any that is an integer multiple of it but for a power of two. -/
theorem dvd_of_eq_mul_zpow {odd m : Nat} (hodd : Odd odd) {n k : Int} (h : (m : ℚ) = n * odd * 2 ^ k) : odd ∣ m := by
  rcases k.eq_nat_or_neg with ⟨j, rfl | rfl⟩
  · have hint : (m : ℤ) = odd * (n * 2 ^ j) := by
      rw [mul_left_comm, ← mul_assoc]
      exact_mod_cast h
    exact Int.natCast_dvd_natCast.1 ⟨_, hint⟩
  · have hint : (m : ℤ) * 2 ^ j = odd * n := by
      rw [zpow_neg, zpow_natCast, ← div_eq_mul_inv, eq_div_iff (by positivity), mul_comm (n : ℚ)] at h
      exact_mod_cast h
    have hcoprime : IsCoprime (odd : ℤ) (2 ^ j) := by
      exact_mod_cast Nat.isCoprime_iff_coprime.2 (Nat.Coprime.pow_right j (Nat.coprime_two_right.2 hodd))
    exact Int.natCast_dvd_natCast.1 (hcoprime.dvd_of_dvd_mul_right ⟨n, hint⟩)

theorem FpVal.div_num (s t : Bool) (m k odd : Nat) (e f : Int) (h : Odd odd) :
    (FpVal.num s m e).div (.num t (2 ^ k * odd) f) = if odd ∣ m then some (.num (s ^^ t) (m / odd) (e - f - k)) else none := by
  have hne : 2 ^ k * odd ≠ 0 := Nat.mul_ne_zero (by positivity) h.pos.ne'
  simp only [FpVal.div, if_neg hne, gcd_two_pow_log2 k odd h, Nat.mul_div_cancel_left _ (Nat.two_pow_pos k), Nat.log2_two_pow,
    Nat.dvd_iff_mod_eq_zero]

/-- The quotient is exact, and determined where it is an integer times a power of two. -/
theorem FpVal.div_exact {x y : FpVal} {a b : ℚ} (hx : x.rat = some a) (hy : y.rat = some b) :
    (∀ z, x.div y = some z → b ≠ 0 ∧ z.rat = some (a / b)) ∧
      ∀ n k : ℤ, b ≠ 0 → a / b = n * 2 ^ k → ∃ z, x.div y = some z := by
  obtain ⟨s, m, e, rfl, rfl⟩ := FpVal.rat_eq_some_iff.1 hx
  obtain ⟨t, n, f, rfl, rfl⟩ := FpVal.rat_eq_some_iff.1 hy
  rcases eq_or_ne n 0 with rfl | hn
  · exact ⟨nofun, fun _ _ hb => absurd (by simp) hb⟩
  obtain ⟨k, odd, hodd, rfl⟩ := Nat.exists_eq_two_pow_mul_odd hn
  rw [FpVal.div_num s t m k odd e f hodd]
  have hodd0 : (odd : ℚ) ≠ 0 := Nat.cast_ne_zero.2 hodd.pos.ne'
  have ht := signFactor_ne_zero t
  have hb : signFactor t * (2 ^ k * odd : ℕ) * 2 ^ f ≠ 0 := by
    have := Nat.cast_ne_zero (R := ℚ) |>.2 hn
    positivity
  refine ⟨fun z hz => ⟨hb, ?_⟩, fun N K _ hq => ⟨_, if_pos ?_⟩⟩
  · rw [Option.ite_none_right_eq_some] at hz
    obtain ⟨⟨c, rfl⟩, hz⟩ := hz
    cases hz
    rw [FpVal.rat_num, Nat.mul_div_cancel_left _ hodd.pos, signFactor_xor]
    congr 1
    rw [eq_div_iff hb, zpow_sub₀ two_ne_zero, zpow_sub₀ two_ne_zero, zpow_natCast]
    push_cast
    field_simp
    rw [pow_two, signFactor_mul_self]
    ring
  · obtain ⟨u, hu⟩ := exists_intCast_eq_signFactor (s ^^ t)
    rw [signFactor_xor] at hu
    refine dvd_of_eq_mul_zpow hodd (n := u * N) (k := K + k + f - e) ?_
    rw [div_eq_iff hb] at hq
    push_cast at hq ⊢
    rw [← hu, zpow_sub₀ two_ne_zero, zpow_add₀ two_ne_zero, zpow_add₀ two_ne_zero, zpow_natCast, mul_div_assoc',
      eq_div_iff (by positivity)]
    linear_combination signFactor s * hq - m * 2 ^ e * signFactor_mul_self s

/-! ## Square root -/

/-- The bits of a root, found from the highest on, are those of the integer square root. -/
theorem isqrt_eq_sqrt (m k : Nat) : ∀ r, r * r ≤ m → m < (r + 2 ^ k) * (r + 2 ^ k) → isqrt m k r = m.sqrt := by
  induction k with
  | zero => exact fun r hle hlt => Nat.eq_sqrt.2 ⟨hle, hlt⟩
  | succ k ih =>
    intro r hle hlt
    rw [isqrt]
    split
    · next hbit => exact ih _ hbit (by rwa [add_assoc, ← mul_two, ← pow_succ])
    · next hbit => exact ih r hle (not_le.1 hbit)

theorem isqrt_log2 (m : Nat) : isqrt m (m.log2 / 2 + 1) 0 = m.sqrt := by
  refine isqrt_eq_sqrt m _ 0 (by simp) ?_
  calc m < 2 ^ (m.log2 + 1) := Nat.lt_log2_self
    _ ≤ 2 ^ ((m.log2 / 2 + 1) + (m.log2 / 2 + 1)) := Nat.pow_le_pow_right (by decide) (by omega)
    _ = (0 + 2 ^ (m.log2 / 2 + 1)) * (0 + 2 ^ (m.log2 / 2 + 1)) := by rw [pow_add, zero_add]

/-- The root of a positive number: it is written with an even exponent `h + h`, so that its root is that of an integer. -/
theorem FpVal.sqrt_num {m : Nat} (hm : m ≠ 0) (e : Int) :
    ∃ (m' : Nat) (h : Int), (m : ℚ) * 2 ^ e = m' * (2 ^ h * 2 ^ h) ∧
      (FpVal.num false m e).sqrt = if m'.sqrt * m'.sqrt = m' then some (.num false m'.sqrt h) else none := by
  have hsplit {e' : Int} (he : e' % 2 = 0) : (2 : ℚ) ^ (e' / 2) * 2 ^ (e' / 2) = 2 ^ e' := by
    rw [← zpow_add₀ two_ne_zero]
    congr 1
    omega
  rcases Int.emod_two_eq_zero_or_one e with he | he
  · refine ⟨m, e / 2, by rw [hsplit he], ?_⟩
    simp [FpVal.sqrt, hm, he, isqrt_log2]
  · refine ⟨2 * m, (e - 1) / 2, ?_, ?_⟩
    · rw [hsplit (by omega), zpow_sub_one₀ two_ne_zero]
      push_cast
      ring
    · simp [FpVal.sqrt, hm, he, isqrt_log2]

/-- The root is exact, and determined where it is rational. -/
theorem FpVal.sqrt_exact {x : FpVal} {a : ℚ} (hx : x.rat = some a) :
    (∀ z, x.sqrt = some z → ∃ r : ℚ, z.rat = some r ∧ 0 ≤ r ∧ r * r = a) ∧ ∀ r : ℚ, r * r = a → ∃ z, x.sqrt = some z := by
  obtain ⟨s, m, e, rfl, rfl⟩ := FpVal.rat_eq_some_iff.1 hx
  rcases eq_or_ne m 0 with rfl | hm
  · refine ⟨fun z hz => ⟨0, ?_, le_rfl, by simp⟩, fun r _ => ⟨_, rfl⟩⟩
    cases hz
    simp [FpVal.rat_num]
  have hpos : (0 : ℚ) < m * 2 ^ e := by positivity
  cases s with
  | true =>
    refine ⟨fun z hz => ?_, fun r hr => ?_⟩
    · simp [FpVal.sqrt, hm] at hz
    · have := mul_self_nonneg r
      rw [hr, signFactor, if_pos rfl, mul_assoc] at this
      linarith
  | false =>
    obtain ⟨m', h, hval, hsqrt⟩ := FpVal.sqrt_num hm e
    rw [hsqrt, signFactor, if_neg Bool.false_ne_true, one_mul, hval]
    refine ⟨fun z hz => ?_, fun r hr => ⟨_, if_pos ?_⟩⟩
    · rw [Option.ite_none_right_eq_some] at hz
      obtain ⟨hsquare, hz⟩ := hz
      cases hz
      refine ⟨m'.sqrt * 2 ^ h, by simp [FpVal.rat_num, signFactor], by positivity, ?_⟩
      rw [mul_mul_mul_comm]
      exact_mod_cast congrArg (fun k : ℕ => (k : ℚ) * (2 ^ h * 2 ^ h)) hsquare
    · have hsquare : IsSquare (m' : ℚ) := ⟨r / 2 ^ h, by rw [div_mul_div_comm, hr, mul_div_cancel_right₀ _ (by positivity)]⟩
      obtain ⟨c, hc⟩ := Rat.isSquare_natCast_iff.1 hsquare
      rw [hc, Nat.sqrt_eq]

/-- Settles O46: the five operations one by one. -/
theorem fpOperationsAreExact : Obligations.FpOperationsAreExact := by
  intro x y a b hx hy
  obtain ⟨hadd, hadd'⟩ := FpVal.add_exact hx hy
  obtain ⟨hsub, hsub'⟩ := FpVal.sub_exact hx hy
  obtain ⟨p, hp, hmul⟩ := FpVal.mul_exact hx hy
  obtain ⟨hdiv, hdiv'⟩ := FpVal.div_exact hx hy
  obtain ⟨hsqrt, hsqrt'⟩ := FpVal.sqrt_exact hx
  exact ⟨fun z => ⟨hadd z, hsub z, fun hz => Option.some_injective _ (hp.symm.trans hz) ▸ hmul, hdiv z, hsqrt z⟩, hadd', hsub',
    ⟨p, hp⟩, hdiv', hsqrt'⟩

/-! ## Comparison -/

theorem FpVal.compare_of_rat {x y : FpVal} {a b : ℚ} (hx : x.rat = some a) (hy : y.rat = some b) :
    x.compare y = if a = b then 0#2 else if a < b then 1#2 else 2#2 := by
  obtain ⟨s, m, e, rfl, rfl⟩ := FpVal.rat_eq_some_iff.1 hx
  obtain ⟨t, n, f, rfl, rfl⟩ := FpVal.rat_eq_some_iff.1 hy
  have hunit : (0 : ℚ) < 2 ^ min e f := by positivity
  rw [← scaled_eq s m (min_le_left e f), ← scaled_eq t n (min_le_right e f)]
  simp only [FpVal.compare, mul_left_inj' hunit.ne', mul_lt_mul_iff_left₀ hunit, Int.cast_inj, Int.cast_lt]

/-- A NaN is unordered, and an infinity is beyond every number (43_control_transfer.md R375; log 12). -/
theorem FpVal.compare_nan {x y : FpVal} {b : Bool} (h : x = .nan b ∨ y = .nan b) : x.compare y = 3#2 := by
  rcases h with rfl | rfl
  · rfl
  · cases x <;> rfl

theorem FpVal.compare_inf_inf (a b : Bool) :
    (FpVal.inf a).compare (.inf b) = if a = b then 0#2 else if a then 1#2 else 2#2 := by revert a b; decide

theorem FpVal.compare_inf_of_rat (a : Bool) {y : FpVal} {b : ℚ} (hy : y.rat = some b) :
    (FpVal.inf a).compare y = if a then 1#2 else 2#2 := by
  obtain ⟨t, n, f, rfl, -⟩ := FpVal.rat_eq_some_iff.1 hy
  cases a <;> rfl

theorem FpVal.compare_of_rat_inf {x : FpVal} {a : ℚ} (hx : x.rat = some a) (b : Bool) :
    x.compare (.inf b) = if b then 2#2 else 1#2 := by
  obtain ⟨s, m, e, rfl, -⟩ := FpVal.rat_eq_some_iff.1 hx
  cases b <;> rfl

theorem comparePatterns_of_decode {t : FpFormat} {a b : BitVec 128} {x y : FpVal} (ha : t.decode a = some x)
    (hb : t.decode b = some y) : comparePatterns t a b = some (x.compare y) := by
  rw [comparePatterns, ha, hb]
  cases x with
  | nan => rfl
  | inf | num => cases y <;> rfl

end Sys2Proof.Machine

/-! Patterns of floating-point operands (spec 45_fpop_cpop.md R443 to R445; log 28). A format is known by the number its exponent
and fraction fields stand for (`fieldsRat`) and by its layout; what holds of every format with such fields (`FpFormat.HasFields`)
is said once. -/

namespace Sys2Proof.Machine

/-! ## Fields and layouts -/

/-- The bits a pattern of a format has (R443 to R445). -/
def FpFormat.width : FpFormat → Nat
  | .int | .single => 32
  | .double => 64
  | .extended => 128

/-- The pattern with a sign, an exponent field of `w` bits and a fraction field of `p` bits (Table 2). -/
def packFields (w p : Nat) (neg : Bool) (e f : Nat) : BitVec 128 :=
  (BitVec.ofBool neg ++ BitVec.ofNat w e ++ BitVec.ofNat p f).setWidth 128

/-- The extended pattern with these fields, its reserved bits from `junk` (Table 3). -/
def packExtended (junk : BitVec 128) (neg : Bool) (e : Nat) (j : BitVec 1) (f : Nat) : BitVec 128 :=
  BitVec.ofBool neg ++ BitVec.ofNat 15 e ++ junk.extractLsb' 96 16 ++ j ++ BitVec.ofNat 63 f ++ junk.extractLsb' 0 32

section
variable {w p e f : Nat} (neg : Bool) (h : 1 + w + p ≤ 128)
include h

theorem packFields_toNat_lt : (packFields w p neg e f).toNat < 2 ^ (1 + w + p) := by
  rw [packFields, BitVec.toNat_setWidth_of_le h]
  exact BitVec.isLt _

theorem toNat_lt_of_map_packFields {fields : Option (Nat × Nat)} {x : BitVec 128}
    (hx : (fields.map fun y => packFields w p neg y.1 y.2) = some x) : x.toNat < 2 ^ (1 + w + p) := by
  obtain ⟨y, -, rfl⟩ := Option.map_eq_some_iff.1 hx
  exact packFields_toNat_lt neg h

theorem packFields_sign : (packFields w p neg e f).getLsbD (p + w) = neg := by
  have hin : ¬ p + w < p := by omega
  have hbit : p + w < 128 := by omega
  simp only [packFields, BitVec.getLsbD_setWidth, BitVec.getLsbD_append, hbit, hin, decide_true, Bool.true_and, if_false,
    Nat.add_sub_cancel_left, Nat.lt_irrefl, Nat.sub_self, BitVec.getLsbD_ofBool]

theorem packFields_exponent (he : e < 2 ^ w) : ((packFields w p neg e f).extractLsb' p w).toNat = e := by
  rw [packFields, BitVec.extractLsb'_setWidth_of_le (by omega), BitVec.extractLsb'_append_eq_of_le le_rfl, Nat.sub_self,
    BitVec.extractLsb'_append_eq_right, BitVec.toNat_ofNat, Nat.mod_eq_of_lt he]

theorem packFields_fraction (hf : f < 2 ^ p) : ((packFields w p neg e f).extractLsb' 0 p).toNat = f := by
  rw [packFields, BitVec.extractLsb'_setWidth_of_le (by omega), BitVec.extractLsb'_append_eq_right, BitVec.toNat_ofNat,
    Nat.mod_eq_of_lt hf]

end

section
variable (junk : BitVec 128) (neg : Bool) (m : Nat) (e : Int)

theorem FpFormat.encode_single : FpFormat.single.encode junk (.num neg m e) =
    (exactFields m e 23 255 127 (-126 - (23 : ℕ))).map fun x => packFields 8 23 neg x.1 x.2 := by
  rw [FpFormat.encode, show (-126 - (23 : ℕ) : ℤ) = -149 by decide]
  cases exactFields m e 23 255 127 (-149) <;> rfl

theorem FpFormat.encode_double : FpFormat.double.encode junk (.num neg m e) =
    (exactFields m e 52 2047 1023 (-1022 - (52 : ℕ))).map fun x => packFields 11 52 neg x.1 x.2 := by
  rw [FpFormat.encode, show (-1022 - (52 : ℕ) : ℤ) = -1074 by decide]
  cases exactFields m e 52 2047 1023 (-1074) <;> rfl

theorem FpFormat.encode_extended : FpFormat.extended.encode junk (.num neg m e) =
    (exactFields m e 63 32767 16383 (-16383 - (63 : ℕ))).map fun x =>
      packExtended junk neg x.1 (BitVec.ofBool (x.1 != 0)) x.2 := by
  rw [FpFormat.encode, show (-16383 - (63 : ℕ) : ℤ) = -16383 - 63 by decide]
  cases exactFields m e 63 32767 16383 (-16383 - 63) <;> rfl

/-- The integer part of a number, truncated toward zero. -/
def truncatedInt : Int :=
  let a := if 0 ≤ e then m * 2 ^ e.toNat else m / 2 ^ (-e).toNat
  if neg then -(a : Int) else a

theorem FpFormat.encode_int : FpFormat.int.encode junk (.num neg m e) =
    if -2147483648 ≤ truncatedInt neg m e ∧ truncatedInt neg m e ≤ 2147483647 then
      some ((BitVec.ofInt 32 (truncatedInt neg m e)).setWidth 128)
    else none := rfl

theorem FpFormat.encode_single_inf : FpFormat.single.encode junk (.inf neg) = some (packFields 8 23 neg 255 0) := rfl

theorem FpFormat.encode_double_inf : FpFormat.double.encode junk (.inf neg) = some (packFields 11 52 neg 2047 0) := rfl

theorem FpFormat.encode_extended_inf :
    FpFormat.extended.encode junk (.inf neg) = some (packExtended junk neg 32767 (junk.extractLsb' 95 1) 0) := rfl

end

/-- A pattern has no bits but those of its format. -/
theorem FpFormat.encode_lt {t : FpFormat} {junk p : BitVec 128} {z : FpVal} (h : t.encode junk z = some p) :
    p.toNat < 2 ^ t.width := by
  cases t with
  | extended => exact p.isLt
  | int =>
    cases z with
    | nan => cases h
    | inf => cases h
    | num neg m e =>
      rw [FpFormat.encode_int, Option.ite_none_right_eq_some] at h
      obtain ⟨-, h⟩ := h
      cases h
      rw [BitVec.toNat_setWidth_of_le (by decide)]
      exact BitVec.isLt _
  | single =>
    cases z with
    | nan => cases h
    | inf neg => cases h; exact packFields_toNat_lt neg (by decide)
    | num neg m e =>
      rw [FpFormat.encode_single] at h
      exact toNat_lt_of_map_packFields neg (by decide) h
  | double =>
    cases z with
    | nan => cases h
    | inf neg => cases h; exact packFields_toNat_lt neg (by decide)
    | num neg m e =>
      rw [FpFormat.encode_double] at h
      exact toNat_lt_of_map_packFields neg (by decide) h

/-! ## The number in the fields -/

/-- The number, but for its sign, that an exponent field `e` and a fraction field `f` of `p` bits stand for: 2^(e - bias) * 1.f, or
2^low * 0.f where `e` is 0 (R443 to R445). -/
def fieldsRat (p : Nat) (bias low : Int) (e f : Nat) : ℚ :=
  if e = 0 then 2 ^ low * (f / 2 ^ p) else 2 ^ ((e : ℤ) - bias) * (1 + f / 2 ^ p)

theorem fieldsRat_nonneg (p : Nat) (bias low : Int) (e f : Nat) : 0 ≤ fieldsRat p bias low e f := by
  unfold fieldsRat
  split <;> positivity

theorem fieldsRat_zero (p : Nat) (bias low : Int) (f : Nat) : fieldsRat p bias low 0 f = f * 2 ^ (low - p) := by
  rw [fieldsRat, if_pos rfl, zpow_sub₀ two_ne_zero, zpow_natCast]
  ring

theorem fieldsRat_of_ne_zero (p : Nat) (bias low : Int) {e : Nat} (he : e ≠ 0) (f : Nat) :
    fieldsRat p bias low e f = (2 ^ p + f : ℕ) * 2 ^ (e - bias - p) := by
  rw [fieldsRat, if_neg he, zpow_sub₀ two_ne_zero _ (p : ℤ), zpow_natCast]
  push_cast
  field_simp

/-! ## Exact fields -/

/-- A shift is exact when what it delivers is the number. -/
theorem shiftExact_eq_some_iff {m r : Nat} {k : Int} : shiftExact m k = some r ↔ (r : ℚ) = m * 2 ^ k := by
  rcases le_or_gt 0 k with hk | hk
  · obtain ⟨j, rfl⟩ := Int.eq_ofNat_of_zero_le hk
    rw [shiftExact, if_pos hk, Int.toNat_natCast, Option.some.injEq, zpow_natCast, eq_comm]
    norm_cast
  · obtain ⟨j, rfl⟩ := Int.eq_negSucc_of_lt_zero hk |>.imp fun j h => h.trans (Int.negSucc_eq j)
    rw [shiftExact, if_neg (not_le.2 hk), Option.ite_none_right_eq_some, Option.some.injEq, neg_neg, zpow_neg, ← div_eq_mul_inv,
      eq_div_iff (by positivity)]
    have hdiv {d : ℕ} (hd : 0 < d) : m % d = 0 ∧ m / d = r ↔ r * d = m :=
      ⟨fun ⟨hdvd, hquot⟩ => hquot ▸ Nat.div_mul_cancel (Nat.dvd_of_mod_eq_zero hdvd), by rintro rfl; simp [hd]⟩
    rw [hdiv (by positivity)]
    norm_cast

/-- Where the highest bit of a number stands. -/
theorem log_mul_zpow {m : Nat} (hm : m ≠ 0) (e : Int) : Int.log 2 ((m : ℚ) * 2 ^ e) = m.log2 + e := by
  have hpos : (0 : ℚ) < m * 2 ^ e := by positivity
  refine le_antisymm (Int.lt_add_one_iff.1 ?_) ?_
  · rw [← Int.lt_zpow_iff_log_lt one_lt_two hpos, Nat.cast_two, add_right_comm, zpow_add₀ two_ne_zero]
    gcongr
    exact_mod_cast Nat.lt_log2_self
  · rw [← Int.zpow_le_iff_le_log one_lt_two hpos, Nat.cast_two, zpow_add₀ two_ne_zero]
    gcongr
    exact_mod_cast Nat.log2_self_le hm

theorem log2_add_eq_of_mul_zpow_eq {m n : Nat} (hm : m ≠ 0) (hn : n ≠ 0) {e k : Int} (h : (m : ℚ) * 2 ^ e = n * 2 ^ k) :
    m.log2 + e = n.log2 + k := by
  rw [← log_mul_zpow hm, h, log_mul_zpow hn]

section
variable {m p emax : Nat} {e bias low : Int}

/-- A number that is not zero, by the exponent field of its highest bit: a normalized pattern, a subnormal one, or none. -/
theorem exactFields_normal (hm : m ≠ 0) (h1 : 1 ≤ e + m.log2 + bias) (hmax : e + m.log2 + bias < emax) :
    exactFields m e p emax bias (low - p) =
      (shiftExact m (p - m.log2)).map fun sig => ((e + m.log2 + bias).toNat, sig - 2 ^ p) := by
  simp only [exactFields, if_neg hm, if_neg (not_le.2 hmax), if_pos h1]
  cases shiftExact m (p - m.log2) <;> rfl

theorem exactFields_subnormal (hm : m ≠ 0) (h1 : e + m.log2 + bias < 1) (hmax : 0 < emax) :
    exactFields m e p emax bias (low - p) =
      (shiftExact m (e - (low - p))).bind fun f => if f < 2 ^ p then some (0, f) else none := by
  simp only [exactFields, if_neg hm, if_neg (show ¬ (emax : ℤ) ≤ e + m.log2 + bias by omega), if_neg (not_le.2 h1)]
  cases shiftExact m (e - (low - p)) <;> rfl

theorem exactFields_large (hm : m ≠ 0) (hmax : emax ≤ e + m.log2 + bias) : exactFields m e p emax bias (low - p) = none := by
  simp only [exactFields, if_neg hm, if_pos hmax]

theorem log2_two_pow_add {f : Nat} (hf : f < 2 ^ p) : (2 ^ p + f).log2 = p :=
  (Nat.log2_eq_iff (by positivity)).2 ⟨Nat.le_add_right _ _, by rw [pow_succ]; omega⟩

/-- The exponent field of a number that is the one in some fields: 0 for those of a subnormal number. -/
theorem exponentField_of_fieldsRat (hlow : low + bias ≤ 1) (hm : m ≠ 0) {e' f : Nat} (hf : f < 2 ^ p)
    (h : fieldsRat p bias low e' f = m * 2 ^ e) :
    (e' = 0 → e + m.log2 + bias < 1) ∧ (e' ≠ 0 → e + m.log2 + bias = e') := by
  refine ⟨fun he => ?_, fun he => ?_⟩
  · rw [he, fieldsRat_zero] at h
    have hf0 : f ≠ 0 := by
      rintro rfl
      rw [Nat.cast_zero, zero_mul] at h
      exact absurd h.symm (by positivity)
    have hlog := log2_add_eq_of_mul_zpow_eq hf0 hm h
    have hbit := (Nat.log2_lt hf0).2 hf
    omega
  · rw [fieldsRat_of_ne_zero p bias low he] at h
    have hlog := log2_add_eq_of_mul_zpow_eq (by positivity) hm h
    rw [log2_two_pow_add hf] at hlog
    omega

theorem fieldsRat_zero_eq_iff {f : Nat} :
    fieldsRat p bias low 0 f = m * 2 ^ e ↔ (f : ℚ) = m * 2 ^ (e - (low - p)) := by
  rw [fieldsRat_zero, zpow_sub₀ two_ne_zero e, mul_div_assoc', eq_div_iff (by positivity)]

theorem fieldsRat_eq_iff_of_exponentField {e' f : Nat} (he : e' ≠ 0) (h : e + m.log2 + bias = e') :
    fieldsRat p bias low e' f = m * 2 ^ e ↔ ((2 ^ p + f : ℕ) : ℚ) = m * 2 ^ ((p : ℤ) - m.log2) := by
  have hexp : (2 : ℚ) ^ e = 2 ^ ((p : ℤ) - m.log2) * 2 ^ (e' - bias - p) := by
    rw [← zpow_add₀ two_ne_zero]
    congr 1
    omega
  rw [fieldsRat_of_ne_zero p bias low he, hexp, ← mul_assoc, mul_left_inj' (by positivity)]

/-- A number shifted so that its highest bit stands at bit `p` has the bits 2^p + f. -/
theorem exists_fraction_of_shift (hm : m ≠ 0) {sig : Nat} (h : (sig : ℚ) = m * 2 ^ ((p : ℤ) - m.log2)) :
    ∃ f < 2 ^ p, sig = 2 ^ p + f := by
  have hsig : sig ≠ 0 := by
    rintro rfl
    rw [Nat.cast_zero] at h
    exact absurd h.symm (by positivity)
  have hlog := log2_add_eq_of_mul_zpow_eq (e := p - m.log2) (k := 0) hm hsig (by rw [zpow_zero, mul_one, h])
  obtain ⟨hle, hlt⟩ := (Nat.log2_eq_iff hsig).1 (by omega : sig.log2 = p)
  rw [pow_succ] at hlt
  exact ⟨sig - 2 ^ p, by omega, by omega⟩

theorem fieldsRat_eq_zero_iff {e' f : Nat} : fieldsRat p bias low e' f = 0 ↔ e' = 0 ∧ f = 0 := by
  rcases eq_or_ne e' 0 with rfl | he
  · rw [fieldsRat_zero, mul_eq_zero_iff_right (by positivity), Nat.cast_eq_zero, eq_self, true_and]
  · rw [fieldsRat_of_ne_zero p bias low he]
    exact iff_of_false (by positivity) fun h => he h.1

/-- The fields the model finds are those that stand for the number, and it finds them whenever there are any. -/
theorem exactFields_eq_some_iff (hlow : low + bias ≤ 1) (hmax : 0 < emax) {e' f : Nat} :
    exactFields m e p emax bias (low - p) = some (e', f) ↔
      e' < emax ∧ f < 2 ^ p ∧ fieldsRat p bias low e' f = m * 2 ^ e := by
  rcases eq_or_ne m 0 with rfl | hm
  · rw [exactFields, if_pos rfl, Nat.cast_zero, zero_mul, fieldsRat_eq_zero_iff, Option.some.injEq, Prod.mk.injEq]
    refine ⟨?_, fun ⟨_, _, he, hf⟩ => ⟨he.symm, hf.symm⟩⟩
    rintro ⟨rfl, rfl⟩
    exact ⟨hmax, by positivity, rfl, rfl⟩
  have hfield := exponentField_of_fieldsRat (p := p) (e := e) (e' := e') (f := f) hlow hm
  rcases le_or_gt (emax : ℤ) (e + m.log2 + bias) with hlarge | hlarge
  · rw [exactFields_large hm hlarge]
    refine ⟨nofun, fun ⟨he, hf, hval⟩ => ?_⟩
    obtain ⟨hzero, hpos⟩ := hfield hf hval
    omega
  rcases lt_or_ge (e + m.log2 + bias) 1 with hlt | hge
  · simp only [exactFields_subnormal hm hlt hmax, Option.bind_eq_some_iff, shiftExact_eq_some_iff, Option.ite_none_right_eq_some,
      Option.some.injEq, Prod.mk.injEq]
    refine ⟨?_, fun ⟨_, hf, hval⟩ => ?_⟩
    · rintro ⟨g, hg, hlt, rfl, rfl⟩
      exact ⟨hmax, hlt, fieldsRat_zero_eq_iff.2 hg⟩
    · obtain ⟨-, hpos⟩ := hfield hf hval
      obtain rfl : e' = 0 := by omega
      exact ⟨f, fieldsRat_zero_eq_iff.1 hval, hf, rfl, rfl⟩
  · simp only [exactFields_normal hm hge hlarge, Option.map_eq_some_iff, shiftExact_eq_some_iff, Prod.mk.injEq]
    refine ⟨?_, fun ⟨_, hf, hval⟩ => ?_⟩
    · rintro ⟨sig, hsig, rfl, rfl⟩
      obtain ⟨f, hf, rfl⟩ := exists_fraction_of_shift hm hsig
      rw [Nat.add_sub_cancel_left]
      exact ⟨by omega, hf, (fieldsRat_eq_iff_of_exponentField (by omega) (by omega)).2 hsig⟩
    · obtain ⟨hzero, hpos⟩ := hfield hf hval
      have he : e' ≠ 0 := by omega
      exact ⟨2 ^ p + f, (fieldsRat_eq_iff_of_exponentField he (hpos he)).1 hval, by omega, Nat.add_sub_cancel_left _ _⟩

end

/-! ## Formats with fields -/

theorem abs_signFactor_mul (neg : Bool) {q : ℚ} (h : 0 ≤ q) : |signFactor neg * q| = q := by
  cases neg <;> simp [signFactor, abs_of_nonneg h]

/-- A format whose numbers have an exponent field below `emax` and a fraction field of `p` bits, with this bias and this exponent
of the subnormal numbers, and whose patterns `pack` makes of a sign and fields. -/
structure FpFormat.HasFields (t : FpFormat) (p emax : Nat) (bias low : Int)
    (pack : BitVec 128 → Bool → Nat × Nat → BitVec 128) : Prop where
  emax_pos : 0 < emax
  low_le : low + bias ≤ 1
  encode_num (junk : BitVec 128) (neg : Bool) (m : Nat) (e : Int) :
    t.encode junk (.num neg m e) = (exactFields m e p emax bias (low - p)).map (pack junk neg)
  decode_pack (junk : BitVec 128) (neg : Bool) {e f : Nat} : e < emax → f < 2 ^ p →
    ∃ v, t.decode (pack junk neg (e, f)) = some v ∧ v.IsNumber neg (signFactor neg * fieldsRat p bias low e f)
  fields_of_decode {x : BitVec 128} {v : FpVal} {q : ℚ} : t.decode x = some v → v.rat = some q →
    ∃ neg e f, e < emax ∧ f < 2 ^ p ∧ q = signFactor neg * fieldsRat p bias low e f

section
variable {t : FpFormat} {p emax : Nat} {bias low : Int} {pack : BitVec 128 → Bool → Nat × Nat → BitVec 128}

/-- What such a format encodes keeps its sign and its number. -/
theorem FpFormat.HasFields.decode_encode (h : t.HasFields p emax bias low pack) {junk x : BitVec 128} {v : FpVal} {neg : Bool}
    {q : ℚ} (hv : v.IsNumber neg q) (hx : t.encode junk v = some x) : ∃ v', t.decode x = some v' ∧ v'.IsNumber neg q := by
  obtain ⟨m, e, rfl, rfl⟩ := FpVal.isNumber_iff.1 hv
  rw [h.encode_num, Option.map_eq_some_iff] at hx
  obtain ⟨⟨e', f⟩, hfields, rfl⟩ := hx
  obtain ⟨he, hf, hval⟩ := (exactFields_eq_some_iff h.low_le h.emax_pos).1 hfields
  obtain ⟨v', hdecode, hnumber⟩ := h.decode_pack junk neg he hf
  rw [hval, ← mul_assoc] at hnumber
  exact ⟨v', hdecode, hnumber⟩

/-- Such a format encodes every number that one of its patterns stands for. -/
theorem FpFormat.HasFields.encode_of_decode (h : t.HasFields p emax bias low pack) (junk : BitVec 128) {x : BitVec 128}
    {v v' : FpVal} {neg : Bool} {q : ℚ} (hv : v.IsNumber neg q) (hx : t.decode x = some v') (hv' : v'.rat = some q) :
    ∃ x', t.encode junk v = some x' := by
  obtain ⟨m, e, rfl, rfl⟩ := FpVal.isNumber_iff.1 hv
  obtain ⟨neg', e', f, he, hf, hq'⟩ := h.fields_of_decode hx hv'
  have hval : fieldsRat p bias low e' f = m * 2 ^ e :=
    calc fieldsRat p bias low e' f = |signFactor neg' * fieldsRat p bias low e' f| :=
          (abs_signFactor_mul neg' (fieldsRat_nonneg p bias low e' f)).symm
      _ = |signFactor neg * (m * 2 ^ e)| := by rw [← hq', mul_assoc]
      _ = m * 2 ^ e := abs_signFactor_mul neg (by positivity)
  rw [h.encode_num, (exactFields_eq_some_iff h.low_le h.emax_pos).2 ⟨he, hf, hval⟩]
  exact ⟨_, rfl⟩

end

/-! ## Tables 2 and 3 -/

/-- The number that the model gives a subnormal pattern and a normalized one. -/
theorem isNumber_subnormal (neg : Bool) (f p : Nat) (bias low : Int) :
    (FpVal.num neg f (low - p)).IsNumber neg (signFactor neg * fieldsRat p bias low 0 f) :=
  ⟨⟨_, _, rfl⟩, by rw [FpVal.rat_num, fieldsRat_zero, mul_assoc]⟩

theorem isNumber_normal (neg : Bool) (e f p : Nat) (bias low : Int) (he : e ≠ 0) :
    (FpVal.num neg (2 ^ p + f) (e - bias - p)).IsNumber neg (signFactor neg * fieldsRat p bias low e f) :=
  ⟨⟨_, _, rfl⟩, by rw [FpVal.rat_num, fieldsRat_of_ne_zero p bias low he, mul_assoc]⟩

theorem binaryVal_isNumber (neg : Bool) {e emax : Nat} (f p : Nat) (bias : Int) (he : e < emax) :
    (binaryVal neg e f p emax bias).IsNumber neg (signFactor neg * fieldsRat p bias (1 - bias) e f) := by
  rw [binaryVal, if_neg he.ne]
  split
  · next h => exact h ▸ isNumber_subnormal neg f p bias _
  · next h => exact isNumber_normal neg e f p bias _ h

/-- The highest bit of a fraction field. -/
theorem not_testBit_top {f p : Nat} (hp : 0 < p) (hf : f < 2 ^ p) : (!f.testBit (p - 1)) = decide (f < 2 ^ (p - 1)) := by
  obtain ⟨k, rfl⟩ := Nat.exists_eq_succ_of_ne_zero hp.ne'
  rw [Nat.succ_sub_one, Nat.testBit_eq_decide_div_mod_eq]
  rw [Nat.succ_eq_add_one, pow_succ] at hf
  have hlt : f / 2 ^ k < 2 := Nat.div_lt_of_lt_mul hf
  have hzero : f / 2 ^ k = 0 ↔ f < 2 ^ k := Nat.div_eq_zero_iff_lt (by positivity)
  rw [← decide_not, decide_eq_decide, ← hzero]
  generalize f / 2 ^ k = bit at hlt ⊢
  omega

theorem table2_binaryVal (neg : Bool) {e f p emax bias : Nat} (hmax : 0 < emax) (hp : 0 < p) (hf : f < 2 ^ p) :
    Table2 (binaryVal neg e f p emax bias) neg e f p emax bias := by
  refine ⟨fun he hf0 => ?_, fun he hf0 => ?_, fun hpos hlt => ?_, fun he => ?_⟩
  · rw [binaryVal, if_pos he, if_pos hf0]
  · rw [binaryVal, if_pos he, if_neg hf0, not_testBit_top hp hf]
  · have h := binaryVal_isNumber neg f p bias hlt
    rwa [fieldsRat, if_neg hpos.ne', ← mul_assoc] at h
  · have h := binaryVal_isNumber neg f p bias (he ▸ hmax)
    rwa [fieldsRat, if_pos he, ← mul_assoc] at h

theorem extendedVal_isNumber (neg : Bool) {e : Nat} (f : Nat) (he : e < 32767) :
    ∃ v, extendedVal neg e (e != 0).toNat f = some v ∧ v.IsNumber neg (signFactor neg * fieldsRat 63 16383 (-16383) e f) := by
  rw [extendedVal, if_neg he.ne]
  rcases eq_or_ne e 0 with rfl | h
  · exact ⟨_, rfl, isNumber_subnormal neg f 63 16383 (-16383)⟩
  · rw [if_neg h, if_pos (by simp [h])]
    exact ⟨_, rfl, isNumber_normal neg e f 63 16383 _ h⟩

theorem table3_extendedVal (neg : Bool) {e f : Nat} (j : Bool) (hf : f < 2 ^ 63) :
    Table3 (extendedVal neg e j.toNat f) neg e f j := by
  refine ⟨fun he hf0 => ?_, fun he hf0 => ?_, fun hpos hlt hj => ?_, fun he hj => ?_, fun hpos hlt hj => ?_, fun he hj => ?_⟩
  · rw [extendedVal, if_pos he, if_pos hf0]
  · rw [extendedVal, if_pos he, if_neg hf0, not_testBit_top (p := 63) (by decide) hf]
  · have h := extendedVal_isNumber neg f hlt
    rw [bne_iff_ne.2 hpos.ne', fieldsRat, if_neg hpos.ne', ← mul_assoc] at h
    rw [hj]
    exact h
  · have h := extendedVal_isNumber neg (e := e) f (by omega)
    rw [he, fieldsRat, if_pos rfl, ← mul_assoc] at h
    rw [hj, he]
    exact h
  · rw [extendedVal, if_neg hlt.ne, if_neg hpos.ne', hj]
    rfl
  · rw [extendedVal, if_neg (by omega), if_pos he, hj]
    rfl

/-! ## The formats -/

section
variable (sign : BitVec 1) (e : BitVec 15) (hi : BitVec 16) (j : BitVec 1) (f : BitVec 63) (lo : BitVec 32)

theorem getLsbD_extendedParts : (sign ++ e ++ hi ++ j ++ f ++ lo).getLsbD 127 = sign.getLsbD 0 := by
  simp only [BitVec.getLsbD_append]
  rfl

theorem extractLsb'_extendedParts :
    (sign ++ e ++ hi ++ j ++ f ++ lo).extractLsb' 112 15 = e ∧ (sign ++ e ++ hi ++ j ++ f ++ lo).extractLsb' 95 1 = j ∧
      (sign ++ e ++ hi ++ j ++ f ++ lo).extractLsb' 32 63 = f := by
  refine ⟨?_, ?_, ?_⟩ <;>
    simp (disch := decide) only [BitVec.extractLsb'_append_eq_of_le, Nat.reduceSub, BitVec.extractLsb'_append_eq_right]

end

/-- An extended pattern has the fields it was made of. -/
theorem decode_packExtended (junk : BitVec 128) (neg : Bool) {e f : Nat} (j : BitVec 1) (he : e < 2 ^ 15) (hf : f < 2 ^ 63) :
    FpFormat.extended.decode (packExtended junk neg e j f) = extendedVal neg e j.toNat f := by
  obtain ⟨hexp, hj, hfrac⟩ := extractLsb'_extendedParts (BitVec.ofBool neg) (BitVec.ofNat 15 e) (junk.extractLsb' 96 16) j
    (BitVec.ofNat 63 f) (junk.extractLsb' 0 32)
  have hsign : (packExtended junk neg e j f).getLsbD 127 = neg :=
    (getLsbD_extendedParts ..).trans (by simp)
  have hexp' : ((packExtended junk neg e j f).extractLsb' 112 15).toNat = e :=
    (congrArg BitVec.toNat hexp).trans (Nat.mod_eq_of_lt he)
  have hj' : ((packExtended junk neg e j f).extractLsb' 95 1).toNat = j.toNat := congrArg BitVec.toNat hj
  have hfrac' : ((packExtended junk neg e j f).extractLsb' 32 63).toNat = f :=
    (congrArg BitVec.toNat hfrac).trans (Nat.mod_eq_of_lt hf)
  rw [FpFormat.decode, hsign, hexp', hj', hfrac']

theorem binaryVal_ne_emax {neg : Bool} {e f p emax : Nat} {bias : Int} {q : ℚ} (h : (binaryVal neg e f p emax bias).rat = some q) :
    e ≠ emax := by
  intro he
  rw [binaryVal, if_pos he] at h
  split at h <;> cases h

theorem extendedVal_fields {neg : Bool} {e j f : Nat} {v : FpVal} {q : ℚ} (h : extendedVal neg e j f = some v)
    (hv : v.rat = some q) : e ≠ 32767 ∧ j = (e != 0).toNat := by
  unfold extendedVal at h
  split at h
  · cases h
    split at hv <;> cases hv
  · next hmax =>
    split at h
    · next he =>
      obtain ⟨hj, -⟩ := Option.ite_none_right_eq_some.1 h
      exact ⟨hmax, by rw [hj, he]; rfl⟩
    · next he =>
      obtain ⟨hj, -⟩ := Option.ite_none_right_eq_some.1 h
      exact ⟨hmax, by rw [hj, bne_iff_ne.2 he]; rfl⟩

/-- Single and double differ in the widths of their fields only. -/
theorem FpFormat.hasFields_binary {t : FpFormat} {w p emax : Nat} {bias low : Int} (hmax : 0 < emax) (hemax : emax + 1 = 2 ^ w)
    (hwidth : 1 + w + p ≤ 128) (hlow : low = 1 - bias)
    (hencode : ∀ junk neg m e, t.encode junk (.num neg m e) =
      (exactFields m e p emax bias (low - p)).map fun x => packFields w p neg x.1 x.2)
    (hdecode : ∀ x, t.decode x =
      some (binaryVal (x.getLsbD (p + w)) (x.extractLsb' p w).toNat (x.extractLsb' 0 p).toNat p emax bias)) :
    t.HasFields p emax bias low fun _ neg x => packFields w p neg x.1 x.2 where
  emax_pos := hmax
  low_le := by omega
  encode_num := hencode
  decode_pack junk neg e f he hf := by
    refine ⟨_, hdecode _, ?_⟩
    rw [packFields_sign neg hwidth, packFields_exponent neg hwidth (by omega), packFields_fraction neg hwidth hf, hlow]
    exact binaryVal_isNumber neg f p bias he
  fields_of_decode {x v q} hv hq := by
    rw [hdecode] at hv
    cases hv
    have hle := (x.extractLsb' p w).isLt
    have hne := binaryVal_ne_emax hq
    have he : (x.extractLsb' p w).toNat < emax := by omega
    obtain ⟨-, hnumber⟩ := binaryVal_isNumber (x.getLsbD (p + w)) (x.extractLsb' 0 p).toNat p bias he
    rw [hq, ← hlow] at hnumber
    exact ⟨_, _, _, he, BitVec.isLt _, Option.some_injective _ hnumber⟩

theorem FpFormat.hasFields_single : FpFormat.single.HasFields 23 255 127 (-126) fun _ neg x => packFields 8 23 neg x.1 x.2 :=
  FpFormat.hasFields_binary (w := 8) (by decide) (by decide) (by decide) (by decide) FpFormat.encode_single fun _ => rfl

theorem FpFormat.hasFields_double : FpFormat.double.HasFields 52 2047 1023 (-1022) fun _ neg x => packFields 11 52 neg x.1 x.2 :=
  FpFormat.hasFields_binary (w := 11) (by decide) (by decide) (by decide) (by decide) FpFormat.encode_double fun _ => rfl

theorem FpFormat.hasFields_extended : FpFormat.extended.HasFields 63 32767 16383 (-16383)
    fun junk neg x => packExtended junk neg x.1 (BitVec.ofBool (x.1 != 0)) x.2 where
  emax_pos := by decide
  low_le := by decide
  encode_num := FpFormat.encode_extended
  decode_pack junk neg e f he hf := by
    rw [decode_packExtended junk neg _ (by omega) hf, BitVec.toNat_ofBool]
    exact extendedVal_isNumber neg f he
  fields_of_decode {x v q} hv hq := by
    rw [FpFormat.decode] at hv
    obtain ⟨hne, hj⟩ := extendedVal_fields hv hq
    have hle := (x.extractLsb' 112 15).isLt
    have he : (x.extractLsb' 112 15).toNat < 32767 := by omega
    obtain ⟨v', hv', -, hnumber⟩ := extendedVal_isNumber (x.getLsbD 127) (x.extractLsb' 32 63).toNat he
    rw [hj, hv'] at hv
    rw [Option.some_injective _ hv, hq] at hnumber
    exact ⟨_, _, _, he, BitVec.isLt _, Option.some_injective _ hnumber⟩

theorem FpFormat.exists_hasFields {t : FpFormat} (h : t ≠ .int) : ∃ p emax bias low pack, t.HasFields p emax bias low pack := by
  cases t with
  | int => exact absurd rfl h
  | single => exact ⟨_, _, _, _, _, FpFormat.hasFields_single⟩
  | double => exact ⟨_, _, _, _, _, FpFormat.hasFields_double⟩
  | extended => exact ⟨_, _, _, _, _, FpFormat.hasFields_extended⟩

/-! ## Infinities -/

theorem binaryVal_of_packFields_inf {w p emax : Nat} (neg : Bool) (bias : Int) (hwidth : 1 + w + p ≤ 128) (hemax : emax < 2 ^ w) :
    let x := packFields w p neg emax 0
    binaryVal (x.getLsbD (p + w)) (x.extractLsb' p w).toNat (x.extractLsb' 0 p).toNat p emax bias = .inf neg := by
  intro x
  rw [packFields_sign neg hwidth, packFields_exponent neg hwidth hemax, packFields_fraction neg hwidth (by positivity), binaryVal,
    if_pos rfl, if_pos rfl]

theorem FpFormat.encode_inf (t : FpFormat) (junk : BitVec 128) (neg : Bool) (h : t ≠ .int) :
    ∃ x, t.encode junk (.inf neg) = some x ∧ t.decode x = some (.inf neg) := by
  cases t with
  | int => exact absurd rfl h
  | single =>
    refine ⟨_, FpFormat.encode_single_inf junk neg, ?_⟩
    exact congrArg some (binaryVal_of_packFields_inf (w := 8) (p := 23) neg _ (by decide) (by decide))
  | double =>
    refine ⟨_, FpFormat.encode_double_inf junk neg, ?_⟩
    exact congrArg some (binaryVal_of_packFields_inf (w := 11) (p := 52) neg _ (by decide) (by decide))
  | extended =>
    refine ⟨_, FpFormat.encode_extended_inf junk neg, ?_⟩
    rw [decode_packExtended junk neg _ (by decide) (by decide)]
    rfl

/-! ## Integers -/

theorem floor_mul_zpow (m : Nat) (e : Int) :
    ⌊(m : ℚ) * 2 ^ e⌋ = ((if 0 ≤ e then m * 2 ^ e.toNat else m / 2 ^ (-e).toNat : ℕ) : ℤ) := by
  split
  · next he =>
    obtain ⟨j, rfl⟩ := Int.eq_ofNat_of_zero_le he
    rw [zpow_natCast, Int.toNat_natCast]
    exact_mod_cast Int.floor_natCast (m * 2 ^ j)
  · next he =>
    obtain ⟨j, hj⟩ := Int.eq_ofNat_of_zero_le (by omega : 0 ≤ -e)
    rw [hj, Int.toNat_natCast, ← neg_neg e, hj, zpow_neg, zpow_natCast, ← div_eq_mul_inv]
    have hfloor := Rat.floor_intCast_div_natCast m (2 ^ j)
    rwa [Int.cast_natCast, Nat.cast_pow, Nat.cast_two, ← Int.natCast_div] at hfloor

/-- The integer part is the number truncated toward zero. -/
theorem truncatedInt_eq {neg : Bool} {m : Nat} {e : Int} {q : ℚ} (h : signFactor neg * m * 2 ^ e = q) :
    truncatedInt neg m e = if q < 0 then ⌈q⌉ else ⌊q⌋ := by
  have hnonneg : (0 : ℚ) ≤ m * 2 ^ e := by positivity
  rw [mul_assoc] at h
  simp only [truncatedInt, ← floor_mul_zpow]
  cases neg with
  | false =>
    simp only [signFactor, Bool.false_eq_true, if_false, one_mul] at h
    simp only [Bool.false_eq_true, if_false, ← h, if_neg (not_lt.2 hnonneg)]
  | true =>
    simp only [signFactor, if_true, neg_one_mul] at h
    simp only [if_true, ← h, Int.ceil_neg]
    split
    · rfl
    · next hneg =>
      have hzero : (m : ℚ) * 2 ^ e = 0 := by linarith
      rw [hzero]
      rfl

theorem truncatedInt_of_encode {junk x : BitVec 128} {neg : Bool} {m : Nat} {e : Int}
    (h : FpFormat.int.encode junk (.num neg m e) = some x) : (x.extractLsb' 0 32).toInt = truncatedInt neg m e := by
  rw [FpFormat.encode_int, Option.ite_none_right_eq_some] at h
  obtain ⟨⟨hle, hlt⟩, h⟩ := h
  cases h
  rw [BitVec.extractLsb'_setWidth_of_le (by decide), BitVec.extractLsb'_eq_self, BitVec.toInt_ofInt_eq_self (by decide)] <;> omega

theorem FpFormat.encode_int_of_inRange (junk : BitVec 128) {neg : Bool} {m : Nat} {e : Int} (hle : -2 ^ 31 ≤ truncatedInt neg m e)
    (hlt : truncatedInt neg m e < 2 ^ 31) : ∃ x, FpFormat.int.encode junk (.num neg m e) = some x := by
  rw [FpFormat.encode_int, if_pos (by omega)]
  exact ⟨_, rfl⟩

theorem FpFormat.decode_int_rat (x : BitVec 128) :
    ∃ v, FpFormat.int.decode x = some v ∧ v.rat = some ((x.extractLsb' 0 32).toInt : ℚ) :=
  ⟨_, rfl, by rw [FpVal.rat_num, zpow_zero, mul_one, signFactor_mul_natAbs]⟩

/-! ## Every pattern -/

theorem extractLsb'_toNat_eq (x : BitVec 128) (k n : Nat) : (x.extractLsb' k n).toNat = x.toNat / 2 ^ k % 2 ^ n := by
  rw [BitVec.extractLsb'_toNat, Nat.shiftRight_eq_div_pow]

theorem toNat_extractLsb'_one (x : BitVec 128) (k : Nat) : (x.extractLsb' k 1).toNat = (x.getLsbD k).toNat := by
  rw [extractLsb'_toNat_eq, pow_one, ← BitVec.testBit_toNat, Nat.toNat_testBit]

/-- Settles O47: the tables hold of what the model makes of the fields, a format with fields keeps numbers, and an integer is its
two's complement. -/
theorem fpPatternsKeepValue : Obligations.FpPatternsKeepValue := by
  refine ⟨fun x => ⟨⟨_, rfl, ?_⟩, ⟨_, rfl, ?_⟩, ?_, FpFormat.decode_int_rat x⟩, fun t junk =>
    ⟨fun neg ht => t.encode_inf junk neg ht, fun v neg q hv => ?_⟩⟩
  · have h := table2_binaryVal (x.getLsbD 31) (e := (x.extractLsb' 23 8).toNat) (emax := 255) (bias := 127) (by decide)
      (by decide : 0 < 23) (x.extractLsb' 0 23).isLt
    simpa only [extractLsb'_toNat_eq, pow_zero, Nat.div_one, Nat.cast_ofNat] using h
  · have h := table2_binaryVal (x.getLsbD 63) (e := (x.extractLsb' 52 11).toNat) (emax := 2047) (bias := 1023) (by decide)
      (by decide : 0 < 52) (x.extractLsb' 0 52).isLt
    simpa only [extractLsb'_toNat_eq, pow_zero, Nat.div_one, Nat.cast_ofNat] using h
  · have h := table3_extendedVal (x.getLsbD 127) (e := (x.extractLsb' 112 15).toNat) (x.getLsbD 95) (x.extractLsb' 32 63).isLt
    rw [FpFormat.decode, toNat_extractLsb'_one]
    simpa only [extractLsb'_toNat_eq] using h
  · intro truncated
    obtain ⟨m, e, rfl, hq⟩ := FpVal.isNumber_iff.1 hv
    rcases eq_or_ne t .int with rfl | ht
    · have htruncated : truncatedInt neg m e = truncated := truncatedInt_eq hq
      refine ⟨fun x hx => ⟨absurd rfl, fun _ => (truncatedInt_of_encode hx).trans htruncated⟩, fun _ _ h => absurd rfl h,
        fun _ hle hlt => FpFormat.encode_int_of_inRange junk ?_ ?_⟩
      · rwa [htruncated]
      · rwa [htruncated]
    · obtain ⟨p, emax, bias, low, pack, h⟩ := FpFormat.exists_hasFields ht
      exact ⟨fun x hx => ⟨fun _ => h.decode_encode hv hx, fun hint => absurd hint ht⟩,
        fun x v' _ hx hv' => h.encode_of_decode junk hv hx hv', fun hint => absurd hint ht⟩

end Sys2Proof.Machine

/-! The statements on the FPops and CPops as instructions (spec 45_fpop_cpop.md). A launch changes its unit and the count of free
values, and the integer unit goes on (`Launches`); an FPop with a destination also delivers a pattern there, unless it ends in an
exception (`DeliversPattern`). Each family of FPops ends in one operation of the model: for each row of its table see
`exec_fpUnaries` and the lemmas next to it. -/

namespace Sys2Proof.Machine

/-! ## Launches -/

/-- From `s` to `t` unit `u` was given its instruction: nothing changes but the unit, the count of free values and the program
counters, which go on, with `prev` as given. -/
def Launches (s t : State) (u : UnitId) (prev : PrevInstr) : Prop := ∃ v, TouchesUnit s v u ∧ t = { v.advance with prev := prev }

section
variable {s t : State} {u : UnitId} {prev : PrevInstr}

theorem Launches.onlyUnit (h : Launches s t u prev) : OnlyUnit s t u := by
  obtain ⟨v, ⟨x, k, rfl⟩, rfl⟩ := h
  cases u <;> rfl

theorem Launches.memKept (h : Launches s t u prev) : MemKept s t := by
  obtain ⟨v, hv, rfl⟩ := h
  exact State.memKept_of_mem_eq hv.mem_eq

theorem Launches.prev_eq (h : Launches s t u prev) : t.prev = prev := by
  obtain ⟨v, -, rfl⟩ := h
  rfl

theorem Launches.afterCompare (h : Launches s t u prev) (u' : UnitId) :
    Launches s (t.afterCompare u') u (t.afterCompare u').prev := by
  obtain ⟨v, hv, rfl⟩ := h
  exact ⟨v, hv, rfl⟩

end

theorem State.launches_launched (s : State) (u : UnitId) (x : CoUnit) : Launches s (s.launched u x) u .other :=
  ⟨{ s.setUnit u x with free := s.free + 1 }, ⟨x, s.free + 1, rfl⟩, rfl⟩

theorem State.launches_openOperation (s : State) (u : UnitId) : Launches s (s.openOperation u) u .other := by
  unfold State.openOperation
  split
  · exact ⟨s.unsettle u, ⟨_, _, rfl⟩, rfl⟩
  · exact s.launches_launched u _

theorem State.launches_fpResult (s : State) (opf : BitVec 9) (dst : FpFormat) (rd : RegNum) (a b : BitVec 128)
    (exact : BitVec 128 → Option (BitVec 128)) : Launches s (s.fpResult opf dst rd a b exact) .fpu .other := by
  simp only [State.fpResult]
  split <;> exact s.launches_launched .fpu _

theorem State.launches_fpCompareResult (s : State) (opf : BitVec 9) (a b : BitVec 128) (exact : Option (BitVec 2)) :
    Launches s (s.fpCompareResult opf a b exact) .fpu .other := by
  simp only [State.fpCompareResult]
  split <;> exact s.launches_launched .fpu _

/-! ## A unit that is enabled and has no exception pending -/

section
variable {s : State}

theorem State.attempt_operateTraps_of_ready {u : UnitId} (hdis : s.unitDisabled u = false) (hpend : (s.unit u).excPending = false)
    (done : State) : s.attempt (s.operateTraps u) done = done := by
  rw [State.attempt_operateTraps, if_neg (ne_true_of_eq_false hdis), if_neg (ne_true_of_eq_false hpend)]

theorem State.fpop_of_ready (hdis : s.unitDisabled .fpu = false) (hpend : s.fpu.excPending = false) (regsFit : Bool)
    (done : State) : s.fpop regsFit done = if s.fpu.excMode || !regsFit then s.openOperation .fpu else done :=
  State.attempt_operateTraps_of_ready hdis hpend _

/-- Outside exception mode, and with registers that fit, an FPop does its own work. -/
theorem State.fpop_eq_done (hdis : s.unitDisabled .fpu = false) (hpend : s.fpu.excPending = false) (hmode : s.fpu.excMode = false)
    {regsFit : Bool} (hfit : regsFit = true) (done : State) : s.fpop regsFit done = done := by
  rw [State.fpop_of_ready hdis hpend, hmode, hfit]
  rfl

theorem State.launches_fpop (hdis : s.unitDisabled .fpu = false) (hpend : s.fpu.excPending = false) (regsFit : Bool) {done : State}
    (hdone : Launches s done .fpu .other) : Launches s (s.fpop regsFit done) .fpu .other := by
  rw [State.fpop_of_ready hdis hpend]
  split
  · exact s.launches_openOperation .fpu
  · exact hdone

end

/-! ## The families -/

section
variable {rd rs1 rs2 : RegNum} {i : Instr}

theorem exec_fmovs (rd rs2 : RegNum) (s : State) : ∃ status, exec (.fmovs rd rs2) s = .next (s.fpop true
    (s.launched .fpu { s.fpu.setReg rd (s.fpu.reg rs2) with status := status })) := ⟨_, rfl⟩

/-- The moves: FMOVs, which is `exec_fmovs`, and FNEGs and FABSs. -/
theorem exec_fpMoves {f : Word → Word} (h : (i, f) ∈ fpMoves rd rs2) (s : State) :
    i = .fmovs rd rs2 ∧ f = id ∨ i ≠ .fmovs rd rs2 ∧ ∃ opf, exec i s = .next (s.fpBits opf rd rs2 f) := by
  simp only [fpMoves, List.mem_cons, List.not_mem_nil, or_false, Prod.mk.injEq] at h
  rcases h with ⟨rfl, rfl⟩ | ⟨rfl, rfl⟩ | ⟨rfl, rfl⟩
  · exact .inl ⟨rfl, rfl⟩
  · exact .inr ⟨nofun, _, rfl⟩
  · exact .inr ⟨nofun, _, rfl⟩

theorem exec_fpUnaries {src dst : FpFormat} {f : FpVal → Option FpVal} (h : (i, src, dst, f) ∈ fpUnaries rd rs2) (s : State) :
    ∃ opf, exec i s = .next (s.fpUnary opf src dst rd rs2 f) := by
  simp only [fpUnaries, List.mem_cons, List.not_mem_nil, or_false, Prod.mk.injEq] at h
  rcases h with ⟨rfl, rfl, rfl, rfl⟩ | ⟨rfl, rfl, rfl, rfl⟩ | ⟨rfl, rfl, rfl, rfl⟩ | ⟨rfl, rfl, rfl, rfl⟩ | ⟨rfl, rfl, rfl, rfl⟩ |
    ⟨rfl, rfl, rfl, rfl⟩ | ⟨rfl, rfl, rfl, rfl⟩ | ⟨rfl, rfl, rfl, rfl⟩ | ⟨rfl, rfl, rfl, rfl⟩ | ⟨rfl, rfl, rfl, rfl⟩ |
    ⟨rfl, rfl, rfl, rfl⟩ | ⟨rfl, rfl, rfl, rfl⟩ | ⟨rfl, rfl, rfl, rfl⟩ | ⟨rfl, rfl, rfl, rfl⟩ | ⟨rfl, rfl, rfl, rfl⟩ <;>
    exact ⟨_, rfl⟩

theorem exec_fpBinaries {format : FpFormat} {f : FpVal → FpVal → Option FpVal} (h : (i, format, f) ∈ fpBinaries rd rs1 rs2)
    (s : State) : ∃ opf, exec i s = .next (s.fpBinary opf format rd rs1 rs2 f) := by
  simp only [fpBinaries, List.mem_cons, List.not_mem_nil, or_false, Prod.mk.injEq] at h
  rcases h with ⟨rfl, rfl, rfl⟩ | ⟨rfl, rfl, rfl⟩ | ⟨rfl, rfl, rfl⟩ | ⟨rfl, rfl, rfl⟩ | ⟨rfl, rfl, rfl⟩ | ⟨rfl, rfl, rfl⟩ |
    ⟨rfl, rfl, rfl⟩ | ⟨rfl, rfl, rfl⟩ | ⟨rfl, rfl, rfl⟩ | ⟨rfl, rfl, rfl⟩ | ⟨rfl, rfl, rfl⟩ | ⟨rfl, rfl, rfl⟩ <;>
    exact ⟨_, rfl⟩

theorem exec_fpComparisons {format : FpFormat} (h : (i, format) ∈ fpComparisons rs1 rs2) (s : State) :
    ∃ opf, exec i s = .next (s.fpCompare opf format rs1 rs2) := by
  simp only [fpComparisons, List.mem_cons, List.not_mem_nil, or_false, Prod.mk.injEq] at h
  rcases h with ⟨rfl, rfl⟩ | ⟨rfl, rfl⟩ | ⟨rfl, rfl⟩ | ⟨rfl, rfl⟩ | ⟨rfl, rfl⟩ | ⟨rfl, rfl⟩ <;> exact ⟨_, rfl⟩

theorem exec_fpReservedForms {opf : BitVec 9} (h : i ∈ fpReservedForms rd rs1 opf rs2) (s : State) :
    exec i s = .next (s.fpReserved opf) := by
  fin_cases h <;> rfl

theorem exec_cpOperates_eq {opc : BitVec 9} (h : i ∈ cpOperates rd rs1 opc rs2) (s : State) : exec i s = .next s.cpop := by
  fin_cases h <;> rfl

/-- The FPops that do not compare. -/
def fpDelivering (rd rs1 : RegNum) (opf : BitVec 9) (rs2 : RegNum) : List Instr :=
  (fpMoves rd rs2).map Prod.fst ++ (fpUnaries rd rs2).map Prod.fst ++ (fpBinaries rd rs1 rs2).map Prod.fst ++
    fpReservedForms rd rs1 opf rs2

theorem mem_fpOperates_iff {opf : BitVec 9} :
    i ∈ fpOperates rd rs1 opf rs2 ↔ i ∈ (fpComparisons rs1 rs2).map Prod.fst ∨ i ∈ fpDelivering rd rs1 opf rs2 := by
  simp only [fpOperates, fpDelivering, List.mem_append, or_assoc]

theorem not_mem_fpComparisons {opf : BitVec 9} (h : i ∈ fpDelivering rd rs1 opf rs2) :
    i ∉ (fpComparisons rs1 rs2).map Prod.fst := by
  fin_cases h <;> simp [fpComparisons]

/-- Every FPop that does not compare ends in `State.fpop`, whose work is a launch. -/
theorem exec_fpDelivering {opf : BitVec 9} (h : i ∈ fpDelivering rd rs1 opf rs2) (s : State) :
    ∃ regsFit done, exec i s = .next (s.fpop regsFit done) ∧ Launches s done .fpu .other := by
  simp only [fpDelivering, List.mem_append, List.mem_map] at h
  rcases h with ((⟨⟨_, f⟩, h, rfl⟩ | ⟨⟨_, src, dst, f⟩, h, rfl⟩) | ⟨⟨_, format, f⟩, h, rfl⟩) | h
  · rcases exec_fpMoves h s with ⟨rfl, -⟩ | ⟨-, opf, hexec⟩
    · exact ⟨_, _, rfl, s.launches_launched .fpu _⟩
    · exact ⟨_, _, hexec, s.launches_fpResult ..⟩
  · obtain ⟨opf, hexec⟩ := exec_fpUnaries h s
    exact ⟨_, _, hexec, s.launches_fpResult ..⟩
  · obtain ⟨opf, hexec⟩ := exec_fpBinaries h s
    exact ⟨_, _, hexec, s.launches_fpResult ..⟩
  · exact ⟨_, _, exec_fpReservedForms h s, s.launches_launched .fpu _⟩

end

theorem State.launches_fpCompare {s : State} (hdis : s.unitDisabled .fpu = false) (hpend : s.fpu.excPending = false)
    (opf : BitVec 9) (format : FpFormat) (rs1 rs2 : RegNum) : Launches s (s.fpCompare opf format rs1 rs2) .fpu .fpCompare := by
  rw [State.fpCompare, State.attempt_operateTraps_of_ready hdis hpend]
  refine Launches.afterCompare (prev := .other) ?_ .fpu
  split
  · exact s.launches_openOperation .fpu
  · exact s.launches_fpCompareResult ..

/-- Settles O41: a compare launches as a compare, every other FPop as an instruction that is none. -/
theorem fpopsLeaveIntegerUnit : Obligations.FpopsLeaveIntegerUnit := by
  intro s rd rs1 opf rs2 hdis hpend i hi
  rcases mem_fpOperates_iff.1 hi with hcompare | hother
  · obtain ⟨⟨_, format⟩, hrow, rfl⟩ := List.mem_map.1 hcompare
    obtain ⟨opf', hexec⟩ := exec_fpComparisons hrow s
    have hlaunch := State.launches_fpCompare hdis hpend opf' format rs1 rs2
    exact ⟨_, hexec, hlaunch.onlyUnit, hlaunch.memKept, iff_of_true hlaunch.prev_eq hcompare⟩
  · obtain ⟨regsFit, done, hexec, hdone⟩ := exec_fpDelivering hother s
    have hlaunch := State.launches_fpop hdis hpend regsFit hdone
    refine ⟨_, hexec, hlaunch.onlyUnit, hlaunch.memKept, iff_of_false ?_ (not_mem_fpComparisons hother)⟩
    rw [hlaunch.prev_eq]
    nofun

/-- Settles O49: a CPop launches whatever the coprocessor makes of it. -/
theorem cpopsLeaveIntegerUnit : Obligations.CpopsLeaveIntegerUnit := by
  intro s rd rs1 opc rs2 hdis hpend i hi
  have hlaunch : Launches s s.cpop .cp .cpOperate := by
    rw [State.cpop, State.attempt_operateTraps_of_ready hdis hpend]
    exact (s.launches_openOperation .cp).afterCompare .cp
  exact ⟨_, exec_cpOperates_eq hi s, hlaunch.onlyUnit, hlaunch.prev_eq, hlaunch.memKept⟩

/-- Settles O48: a reserved opf does its own work, which is to fail. -/
theorem reservedFpopsLeaveException : Obligations.ReservedFpopsLeaveException := by
  intro s rd rs1 opf rs2 hdis hpend hmode i hi
  have hexec := exec_fpReservedForms hi s
  rw [State.fpReserved, State.fpop_eq_done hdis hpend hmode rfl] at hexec
  exact ⟨_, hexec, (s.launches_launched .fpu _).onlyUnit, rfl, rfl, rfl, rfl⟩

/-! ## Operands -/

theorem FpFormat.double_fits_iff (n : RegNum) : FpFormat.double.fits n = true ↔ n.toNat % 2 = 0 := by revert n; decide

theorem FpFormat.extended_fits_iff (n : RegNum) : FpFormat.extended.fits n = true ↔ n.toNat % 4 = 0 := by revert n; decide

theorem CoUnit.operand_single_toNat (x : CoUnit) (n : RegNum) : (x.operand .single n).toNat = (x.reg n).toNat :=
  BitVec.toNat_setWidth_of_le (by decide)

theorem CoUnit.operand_double_toNat (x : CoUnit) (n : RegNum) :
    (x.operand .double n).toNat = (x.reg n).toNat * 2 ^ 32 + (x.reg (n + 1#5)).toNat := by
  rw [CoUnit.operand, BitVec.toNat_setWidth_of_le (by decide), toNat_append_eq_add]

theorem CoUnit.operand_extended_toNat (x : CoUnit) (n : RegNum) :
    (x.operand .extended n).toNat =
      (((x.reg n).toNat * 2 ^ 32 + (x.reg (n + 1#5)).toNat) * 2 ^ 32 + (x.reg (n + 2#5)).toNat) * 2 ^ 32 +
        (x.reg (n + 3#5)).toNat := by
  rw [← toNat_append_eq_add, ← toNat_append_eq_add, ← toNat_append_eq_add]
  rfl

/-- An operand of a format reads back the pattern put there, if the format has the bits for it. -/
theorem CoUnit.operand_setOperand (x : CoUnit) (f : FpFormat) (n : RegNum) {v : BitVec 128} (h : v.toNat < 2 ^ f.width) :
    (x.setOperand f n v).operand f n = v := by
  refine BitVec.eq_of_toNat_eq ?_
  cases f with
  | int | single =>
    rw [FpFormat.width] at h
    have hread : ((x.setReg n (v.extractLsb' 0 32)).operand .single n).toNat = v.toNat := by
      rw [CoUnit.operand_single_toNat, CoUnit.reg_setReg_self, BitVec.extractLsb'_toNat, Nat.shiftRight_zero, Nat.mod_eq_of_lt h]
    exact hread
  | double =>
    rw [FpFormat.width] at h
    rw [CoUnit.operand_double_toNat]
    simp [CoUnit.setOperand, CoUnit.reg_setReg]
    omega
  | extended =>
    rw [CoUnit.operand_extended_toNat]
    simp [CoUnit.setOperand, CoUnit.reg_setReg]
    omega

theorem CoUnit.reg_setOperand_outside (x : CoUnit) {f : FpFormat} {rd n : RegNum} (v : BitVec 128) (h : outsideOperand f rd n) :
    (x.setOperand f rd v).reg n = x.reg n := by
  cases f with
  | int | single => exact x.reg_setReg_of_ne _ h
  | double =>
    obtain ⟨h0, h1⟩ := h
    rw [CoUnit.setOperand, CoUnit.reg_setReg_of_ne _ _ h1, CoUnit.reg_setReg_of_ne _ _ h0]
  | extended =>
    obtain ⟨h0, h1, h2, h3⟩ := h
    rw [CoUnit.setOperand, CoUnit.reg_setReg_of_ne _ _ h3, CoUnit.reg_setReg_of_ne _ _ h2, CoUnit.reg_setReg_of_ne _ _ h1,
      CoUnit.reg_setReg_of_ne _ _ h0]

@[simp] theorem CoUnit.setOperand_excPending (x : CoUnit) (f : FpFormat) (n : RegNum) (v : BitVec 128) :
    (x.setOperand f n v).excPending = x.excPending := by cases f <;> rfl

@[simp] theorem CoUnit.setOperand_queue (x : CoUnit) (f : FpFormat) (n : RegNum) (v : BitVec 128) :
    (x.setOperand f n v).queue = x.queue := by cases f <;> rfl

@[simp] theorem CoUnit.setOperand_cc (x : CoUnit) (f : FpFormat) (n : RegNum) (v : BitVec 128) :
    (x.setOperand f n v).cc = x.cc := by cases f <;> rfl

/-! ## Delivering a pattern -/

/-- From `s` to `t` the FPU took an FPop with a destination operand: it ends with the pattern `exact` there, if there is one, or in
an exception, and in either case nothing outside the destination changes. -/
structure DeliversPattern (s t : State) (dst : FpFormat) (rd : RegNum) (exact : Option (BitVec 128)) : Prop where
  onlyUnit : OnlyUnit s t .fpu
  outcome : AcceptedOrPending s t
  operand {p : BitVec 128} : t.fpu.excPending = false → exact = some p → p.toNat < 2 ^ dst.width → t.fpu.operand dst rd = p
  outside (n : RegNum) : outsideOperand dst rd n → t.fpu.reg n = s.fpu.reg n
  cc : t.fpu.cc = s.fpu.cc

section
variable {s : State}

/-- An FPU that accepted the FPop, with the pattern in its destination. -/
theorem State.deliversPattern_accepted (hpend : s.fpu.excPending = false) {dst : FpFormat} {rd : RegNum} {v : BitVec 128}
    {exact : Option (BitVec 128)} (hexact : ∀ p, exact = some p → v = p) (status : Word) :
    DeliversPattern s (s.launched .fpu { s.fpu.setOperand dst rd v with status := status }) dst rd exact where
  onlyUnit := (s.launches_launched .fpu _).onlyUnit
  outcome := .inl ⟨(s.fpu.setOperand_excPending dst rd v).trans hpend, s.fpu.setOperand_queue dst rd v⟩
  operand {p} _ hp hlt := by
    obtain rfl := hexact p hp
    exact s.fpu.operand_setOperand dst rd hlt
  outside _ hn := s.fpu.reg_setOperand_outside v hn
  cc := s.fpu.setOperand_cc dst rd v

/-- An FPU that ended it in an exception, with anything in its destination. -/
theorem State.deliversPattern_failed (s : State) (dst : FpFormat) (rd : RegNum) (v : BitVec 128) (exact : Option (BitVec 128))
    (status : Word) :
    DeliversPattern s (s.launched .fpu ({ s.fpu.setOperand dst rd v with status := status }.fail s.pc s.ir)) dst rd exact where
  onlyUnit := (s.launches_launched .fpu _).onlyUnit
  outcome := .inr ⟨rfl, congrArg (· ++ _) (s.fpu.setOperand_queue dst rd v)⟩
  operand := nofun
  outside _ hn := s.fpu.reg_setOperand_outside v hn
  cc := s.fpu.setOperand_cc dst rd v

theorem State.deliversPattern_fpResult (hpend : s.fpu.excPending = false) (opf : BitVec 9) (dst : FpFormat) (rd : RegNum)
    (a b : BitVec 128) (exact : BitVec 128 → Option (BitVec 128)) :
    ∃ junk, DeliversPattern s (s.fpResult opf dst rd a b exact) dst rd (exact junk) := by
  simp only [State.fpResult]
  refine ⟨Config.fpopResult s.free opf (s.fpu.statusWord .fpu) a b, ?_⟩
  split
  · exact s.deliversPattern_failed dst rd _ _ _
  · exact State.deliversPattern_accepted hpend (fun p hp => by rw [hp]; rfl) _

end

/-- Settles O42: FMOVs puts the word into its register; FNEGs and FABSs deliver it as a pattern. -/
theorem fpMovesCopyBits : Obligations.FpMovesCopyBits := by
  intro s rd rs2 hdis hpend hmode ⟨i, f⟩ hrow
  rcases exec_fpMoves hrow s with ⟨rfl, rfl⟩ | ⟨hmove, opf, hexec⟩
  · obtain ⟨status, hexec⟩ := exec_fmovs rd rs2 s
    rw [State.fpop_eq_done hdis hpend hmode rfl] at hexec
    exact ⟨_, hexec, (s.launches_launched .fpu _).onlyUnit, .inl ⟨hpend, rfl⟩, fun _ => s.fpu.reg_setReg_self rd _, fun _ => hpend,
      fun n hn => s.fpu.reg_setReg_of_ne _ hn, rfl⟩
  · rw [State.fpBits, State.fpop_eq_done hdis hpend hmode rfl] at hexec
    obtain ⟨-, h⟩ := State.deliversPattern_fpResult hpend opf .single rd 0#128 (s.fpu.operand .single rs2) fun _ =>
      some ((f (s.fpu.reg rs2)).setWidth 128)
    refine ⟨_, hexec, h.onlyUnit, h.outcome, fun hpend' => ?_, fun hi => absurd hi hmove, h.outside, h.cc⟩
    have hwidth : ((f (s.fpu.reg rs2)).setWidth 128).toNat = (f (s.fpu.reg rs2)).toNat := BitVec.toNat_setWidth_of_le (by decide)
    refine BitVec.eq_of_toNat_eq ?_
    rw [← CoUnit.operand_single_toNat, h.operand hpend' rfl (hwidth.trans_lt (BitVec.isLt _)), hwidth]

/-- Settles O43: each row ends in `State.fpUnary`, which delivers the pattern of its operation. -/
theorem fpUnariesDeliverResult : Obligations.FpUnariesDeliverResult := by
  intro s rd rs2 i src dst f
  refine ⟨fun x n => ⟨x.operand_single_toNat n, x.operand_single_toNat n, x.operand_double_toNat n, rfl, rfl, rfl,
    FpFormat.double_fits_iff n, FpFormat.extended_fits_iff n⟩, fun hrow hdis hpend hmode hsrc hdst => ?_⟩
  obtain ⟨opf, hexec⟩ := exec_fpUnaries hrow s
  rw [State.fpUnary, State.fpop_eq_done hdis hpend hmode (by rw [hsrc, hdst]; rfl)] at hexec
  obtain ⟨junk, h⟩ := State.deliversPattern_fpResult hpend opf dst rd 0#128 (s.fpu.operand src rs2) fun junk =>
    unaryPattern src dst f junk (s.fpu.operand src rs2)
  refine ⟨_, junk, hexec, h.onlyUnit, h.outcome, fun x z p hpend' hx hz hp => ?_, h.outside, h.cc⟩
  exact h.operand hpend' (by rw [unaryPattern, hx, Option.bind_some, hz, Option.bind_some, hp]) (FpFormat.encode_lt hp)

/-- Settles O44: each row ends in `State.fpBinary`, which delivers the pattern of its operation. -/
theorem fpBinariesDeliverResult : Obligations.FpBinariesDeliverResult := by
  intro s rd rs1 rs2 i format f hrow hdis hpend hmode hrs1 hrs2 hrd
  obtain ⟨opf, hexec⟩ := exec_fpBinaries hrow s
  rw [State.fpBinary, State.fpop_eq_done hdis hpend hmode (by rw [hrs1, hrs2, hrd]; rfl)] at hexec
  obtain ⟨junk, h⟩ := State.deliversPattern_fpResult hpend opf format rd (s.fpu.operand format rs1) (s.fpu.operand format rs2)
    fun junk => binaryPattern format f junk (s.fpu.operand format rs1) (s.fpu.operand format rs2)
  refine ⟨_, junk, hexec, h.onlyUnit, h.outcome, fun x y z p hpend' hx hy hz hp => ?_, h.outside, h.cc⟩
  exact h.operand hpend' (by rw [binaryPattern, hx, Option.bind_some, hy, Option.bind_some, hz, Option.bind_some, hp])
    (FpFormat.encode_lt hp)

/-! ## Comparing -/

/-- What a compare leaves outside exception mode: the codes, if they are determined, or an exception. -/
theorem State.fpCompareResult_outcome {s : State} (hpend : s.fpu.excPending = false) (opf : BitVec 9) (a b : BitVec 128)
    (exact : Option (BitVec 2)) :
    let t := s.fpCompareResult opf a b exact
    AcceptedOrPending s t ∧ t.fpu.regs = s.fpu.regs ∧ ∀ c, t.fpu.excPending = false → exact = some c → t.fpu.cc = c := by
  simp only [State.fpCompareResult]
  split
  · exact ⟨.inr ⟨rfl, rfl⟩, rfl, nofun⟩
  · exact ⟨.inl ⟨hpend, rfl⟩, rfl, fun c _ hc => by rw [hc]; rfl⟩

/-- Settles O45: each row ends in `State.fpCompare`, which sets the codes of `FpVal.compare`. -/
theorem fpComparesSetCodes : Obligations.FpComparesSetCodes := by
  intro s rs1 rs2 i format hrow hdis hpend hmode hrs1 hrs2
  obtain ⟨opf, hexec⟩ := exec_fpComparisons hrow s
  have hlaunch := State.launches_fpCompare hdis hpend opf format rs1 rs2
  rw [State.fpCompare, State.attempt_operateTraps_of_ready hdis hpend, hmode, hrs1, hrs2] at hexec hlaunch
  obtain ⟨houtcome, hregs, hcc⟩ := State.fpCompareResult_outcome hpend opf (s.fpu.operand format rs1) (s.fpu.operand format rs2)
    (comparePatterns format (s.fpu.operand format rs1) (s.fpu.operand format rs2))
  refine ⟨_, hexec, hlaunch.onlyUnit, houtcome, hregs, rfl, fun x y hpend' hx hy => ?_⟩
  have hcodes := hcc _ hpend' (comparePatterns_of_decode hx hy)
  refine ⟨fun b h => ?_, fun a b ha hb => ?_, fun a b ha hb => ?_, fun a b ha hb => ?_, fun a b ha hb => ?_⟩
  · exact hcodes.trans (FpVal.compare_nan h)
  · exact hcodes.trans (FpVal.compare_of_rat ha hb)
  · subst ha hb
    exact hcodes.trans (FpVal.compare_inf_inf a b)
  · subst ha
    exact hcodes.trans (FpVal.compare_inf_of_rat a hb)
  · subst hb
    exact hcodes.trans (FpVal.compare_of_rat_inf ha b)

end Sys2Proof.Machine

/-! The statements on trap types, on traps with ET = 0, on interrupts, on HALT and error mode, and on the program flow check (spec
60_exceptions.md). -/

namespace Sys2Proof.Machine

/-! ## Trap types and priorities -/

theorem toNat_tt_interrupt (level : BitVec 4) : (Trap.interrupt level).tt.toNat = 16 + level.toNat := by
  revert level
  decide

/-- Settles O54: the two tables by row, and each list of conditions by its priorities. -/
theorem trapTypesAndPriorities : Obligations.TrapTypesAndPriorities := by
  refine ⟨by decide, fun n => ⟨toNat_tt_trapInstruction n, rfl⟩, fun level _ => ⟨toNat_tt_interrupt level, rfl⟩, rfl,
    fun s u b c size w => ?_⟩
  simp only [List.forall_mem_cons, List.not_mem_nil, false_imp_iff, implies_true, and_true]
  refine ⟨?_, ?_, ?_, ?_, ?_⟩
  · simp [State.memTraps, Trap.priority]
  · cases u <;> simp [State.unitTraps, Trap.priority, disabledTrap, exceptionTrap]
  · simp [State.rettTraps, Trap.priority]
  · cases u <;> simp [State.operateTraps, Trap.priority, disabledTrap, exceptionTrap]
  · simp [State.wrpsrTraps, Trap.priority]

/-! ## A trap with traps disabled -/

/-- A write of the PSR before which ET differs leaves the control registers the same but for ET. -/
theorem Controls.write_of_et (c : Controls) (b : Bool) (w : ControlWrite) :
    ∃ b', ({ c with psr := { c.psr with et := b } } : Controls).write w =
      { c.write w with psr := { (c.write w).psr with et := b' } } := by
  cases w with
  | psr p => exact ⟨p.et, rfl⟩
  | y _ | wim _ | tbr _ => exact ⟨b, rfl⟩

theorem Controls.writeAll_of_et (ws : List LateWrite) (c : Controls) (b : Bool) :
    ∃ b', ({ c with psr := { c.psr with et := b } } : Controls).writeAll ws =
      { c.writeAll ws with psr := { (c.writeAll ws).psr with et := b' } } := by
  induction ws generalizing c b with
  | nil => exact ⟨b, rfl⟩
  | cons l ws ih =>
    obtain ⟨b', hwrite⟩ := c.write_of_et b l.write
    rw [Controls.writeAll_cons, hwrite]
    exact ih (c.write l.write) b'

/-- What the late writes leave where ET was another: the same but for ET. -/
theorem State.settleLate_of_et (s : State) (b : Bool) :
    ∃ b', ({ s with psr := { s.psr with et := b } } : State).settleLate =
      { s.settleLate with psr := { s.settleLate.psr with et := b' } } := by
  obtain ⟨b', hwrites⟩ := Controls.writeAll_of_et s.late s.controls b
  exact ⟨b', congrArg (fun c => { s.setControls c with late := [] }) hwrites⟩

/-- The late writes are seen first, so that a trap is one of the state they leave; ET as the instruction saw it decides the mode
(R530; log 22). -/
theorem State.raise_eq_raise_settleLate (s : State) (trap : Trap) :
    s.raise trap = { s.settleLate.raise trap with mode := s.modeAfterTrap } := rfl

/-- A trap makes the same assignments whatever ET it finds. -/
theorem State.raise_of_et (s : State) (b : Bool) (trap : Trap) :
    s.raise trap = { ({ s with psr := { s.psr with et := b } } : State).raise trap with mode := s.modeAfterTrap } := by
  obtain ⟨b', hsettle⟩ := s.settleLate_of_et b
  rw [State.raise_eq_raise_settleLate, State.raise_eq_raise_settleLate { s with psr := _ }, hsettle]
  rfl

/-- Settles O53: a trap does not see ET but for the mode it leaves. -/
theorem trapWithTrapsDisabledIsErrorMode : Obligations.TrapWithTrapsDisabledIsErrorMode := by
  intro s trap het
  have hmode : s.modeAfterTrap = .error := by simp [State.modeAfterTrap, het]
  exact ⟨hmode ▸ s.raise_of_et true trap, rfl, rfl⟩

/-! ## Interrupts -/

/-- A request is pending exactly as R566 says. -/
theorem State.interruptPending_iff (s : State) :
    s.interruptPending = true ↔ s.psr.et = true ∧ (s.irl = 15#4 ∨ s.psr.pil.toNat < s.irl.toNat) := by
  simp [State.interruptPending, BitVec.lt_def]

/-- What a boundary's input brings is accepted before anything else: the level is the input's, the program counters and the writes
of the PSR that are due are as they would be without it. -/
theorem State.accept_tick_frame (s : State) (inp : BoardInput) :
    let a := (s.accept inp).tickLate
    a.irl = inp.irl ∧ a.psr = s.tickLate.psr ∧ a.pc = s.pc ∧ a.npc = s.npc ∧ a.annul = s.annul := by
  intro a
  simp only [a, State.accept_frame]
  exact ⟨rfl, rfl, rfl, rfl, rfl⟩

/-- Settles O55: with no parity error the boundary takes a pending request before it asks for anything else. -/
theorem interruptTakenBetweenInstructions : Obligations.InterruptTakenBetweenInstructions := by
  intro s hm hr hh hp hu a
  have hframe := s.accept_tick_frame s.input
  have hirl : a.irl = s.input.irl := hframe.1
  have hpending := a.interruptPending_iff
  rw [hirl] at hpending
  refine ⟨hpending, fun het hlevel => ⟨step_of_over ?_, toNat_tt_interrupt _, hframe, fun hb => ⟨?_, ?_⟩⟩⟩
  · rw [s.boundary_execute hm hr hh hp (by rw [hu]; rfl),
      State.executeBoundary_interrupt (State.hardwareTraps_quiet hu _ _) (hpending.2 ⟨het, hlevel⟩)
        (State.preciseError_quiet hu _ _), State.takeInterrupt, ← hirl]
  · simp [State.input, hb, State.idleInput]
  · exact s.accept_tick_idle hm hb

/-! ## HALT and error mode -/

/-- From `s` to `t` no register, no program counter and no mode changes, and memory only where another master writes it. -/
def State.Held (s t : State) : Prop :=
  RegsKept s t ∧ t.psr = s.psr ∧ t.wim = s.wim ∧ t.tbr = s.tbr ∧ t.y = s.y ∧ t.pc = s.pc ∧ t.npc = s.npc ∧
    t.annul = s.annul ∧ (s.input.busWrites = [] → MemKept s t)

theorem State.held_accept (s : State) : s.Held (s.accept s.input) := by
  rw [State.accept_frame]
  refine ⟨⟨rfl, rfl⟩, rfl, rfl, rfl, rfl, rfl, rfl, rfl, fun hb => State.memKept_of_mem_eq ?_⟩
  simp [hb]

theorem State.accept_mode (s : State) (inp : BoardInput) : (s.accept inp).mode = s.mode := by rw [State.accept_frame]

section
variable {s : State} (hr : s.input.reset = false) (hp : s.breaksPins s.input = false)
include hr hp

/-- In error mode a boundary with an input other than RESET accepts it and does nothing else (R531). -/
theorem State.boundary_error (hm : s.mode = .error) (hb : s.board ≠ []) : s.boundary = .over (s.accept s.input) := by
  simp [State.boundary, State.acceptedBoundary, State.accept_mode, hr, hp, hm, hb]

/-- So does a boundary with HALT asserted (R602). -/
theorem State.boundary_halt (hm : s.mode = .execute) (hh : s.input.halt = true) : s.boundary = .over (s.accept s.input) := by
  simp [State.boundary, State.acceptedBoundary, State.accept_mode, hr, hp, hm, hh]

/-- An error of the coding of the RESET signal leads to error mode (R532). -/
theorem State.boundary_resetLine (hm : s.mode = .execute) (hh : s.input.halt = false)
    (hu : s.input.upsets.contains .resetLine = true) : s.boundary = .over { s.accept s.input with mode := .error } := by
  simp only [State.boundary, State.acceptedBoundary, State.accept_mode, hr, hp, hm, hh, hu]
  rfl

end

theorem step_errorModeHalted {s : State} (hm : s.mode = .error) (hb : s.board = []) : step s = .fault .errorModeHalted := by
  simp [step, State.boundary, hm, hb]

/-- Settles O59: what a boundary accepts holds the machine, and these boundaries do no more than accept it. -/
theorem haltAndErrorModeHold : Obligations.HaltAndErrorModeHold := by
  intro s
  refine ⟨step_errorModeHalted, fun hr hp => ⟨?_, fun hm hh hu => ?_⟩⟩
  · rintro (⟨hm, hb⟩ | ⟨hm, hh⟩)
    · exact ⟨_, step_of_over (State.boundary_error hr hp hm hb), s.accept_mode _, s.held_accept⟩
    · exact ⟨_, step_of_over (State.boundary_halt hr hp hm hh), s.accept_mode _, s.held_accept⟩
  · exact ⟨_, step_of_over (State.boundary_resetLine hr hp hm hh hu), rfl, s.held_accept⟩

/-! ## Program flow control -/

/-- The check, which is not the NOP (60_exceptions.md R592; log 24). -/
theorem State.flowCheck_check (s : State) {imm22 : BitVec 22} (h : imm22.extractLsb' 16 6 = 0b011111#6) :
    s.flowCheck imm22 =
      if s.pfcSkip = true ∨ imm22.extractLsb' 0 16 = s.signature then { s with pfcSum := 0#32, pfcSkip := false }.advance
      else { s with pfcSum := 0#32 }.raise .programFlow := by
  have hne : imm22 ≠ 0#22 := by rintro rfl; revert h; decide
  have hdiffers : (!s.pfcSkip && s.signature != imm22.extractLsb' 0 16) = true ↔
      ¬(s.pfcSkip = true ∨ imm22.extractLsb' 0 16 = s.signature) := by
    rw [eq_comm (a := imm22.extractLsb' 0 16)]
    simp
  rw [State.flowCheck, if_neg hne, if_pos (by simp [isCheck, h])]
  simp only [hdiffers, ite_not]

/-- A word that is neither the NOP nor a check (log 24). -/
theorem State.flowCheck_odd (s : State) {imm22 : BitVec 22} (h0 : imm22 ≠ 0#22) (h : imm22.extractLsb' 16 6 ≠ 0b011111#6) :
    ∃ sum skip free, s.flowCheck imm22 = { s with pfcSum := sum, pfcSkip := skip, free := free }.advance ∨
      s.flowCheck imm22 = { s with pfcSum := sum, pfcSkip := skip, free := free }.raise .programFlow := by
  refine ⟨Config.oddSethiSum s.free, Config.oddSethiSkip s.free, s.free + 1, ?_⟩
  rw [State.flowCheck, if_neg h0, if_neg (by simp [isCheck, h])]
  exact (ite_eq_or_eq _ _ _).symm

theorem exec_sethi_flow {s : State} (h : s.pins.flowEnabled = true) (imm22 : BitVec 22) :
    exec (.sethi 0#5 imm22) s = .next (s.flowCheck imm22) := by
  rw [exec_sethi, h]
  rfl

/-- Settles O20: the four cases of `State.flowCheck`. -/
theorem flowCheckComparesSignature : Obligations.FlowCheckComparesSignature := by
  intro s imm22 hflow signature ends
  rw [exec_sethi_flow hflow]
  have hsignature : signature = s.signature := rfl
  rw [hsignature]
  refine ⟨?_, fun hcheck hpass => ?_, fun hcheck hskip hne => ?_, fun h0 hcheck => ?_⟩
  · rintro rfl
    exact ⟨_, rfl, rfl⟩
  · rw [s.flowCheck_check hcheck, if_pos hpass]
    exact ⟨_, rfl, rfl⟩
  · rw [s.flowCheck_check hcheck, if_neg (by simp [hskip, hne])]
  · obtain ⟨sum, skip, free, hend | hend⟩ := s.flowCheck_odd h0 hcheck
    · exact ⟨_, sum, skip, free, rfl, .inl (by rw [hend]; rfl)⟩
    · exact ⟨_, sum, skip, free, rfl, .inr hend⟩

end Sys2Proof.Machine

/-! What an instruction uses (spec 60_exceptions.md R541, R584): the lists of the model, which say it per instruction, against the
statements, which say it by family (Sys2Proof/Safety.lean). -/

namespace Sys2Proof.Machine

/-! ## Control registers -/

theorem usesWim_iff (i : Instr) : usesWim i = true ↔ ReadsWim i := by
  refine ⟨fun h => ?_, ?_⟩
  · cases i
    case rdwim rd => exact ⟨rd, 0#5, .imm 0#13, .inl rfl⟩
    case save rd rs1 src => exact ⟨rd, rs1, src, .inr (.inl rfl)⟩
    case restore rd rs1 src => exact ⟨rd, rs1, src, .inr (.inr (.inl rfl))⟩
    case rett rs1 src => exact ⟨0#5, rs1, src, .inr (.inr (.inr rfl))⟩
    all_goals exact absurd h Bool.false_ne_true
  · rintro ⟨rd, rs1, src, rfl | rfl | rfl | rfl⟩ <;> rfl

theorem usesTbr_iff (i : Instr) : usesTbr i = true ↔ ReadsTbr i := by
  refine ⟨fun h => ?_, ?_⟩
  · cases i
    case rdtbr rd => exact ⟨rd, rfl⟩
    all_goals exact absurd h Bool.false_ne_true
  · rintro ⟨rd, rfl⟩
    rfl

theorem usesY_iff (i : Instr) : usesY i = true ↔ ReadsY i := by
  refine ⟨fun h => ?_, ?_⟩
  · cases i
    case rdy rd => exact ⟨rd, 0#5, .imm 0#13, .inl rfl⟩
    case mulscc rd rs1 src => exact ⟨rd, rs1, src, .inr rfl⟩
    all_goals exact absurd h Bool.false_ne_true
  · rintro ⟨rd, rs1, src, rfl | rfl⟩ <;> rfl

/-! ## r registers -/

theorem mem_operandReads_iff (n : RegNum) (src : Operand2) : n ∈ operandReads src ↔ src = .reg n := by
  cases src <;> simp [operandReads, eq_comm]

theorem mem_shiftReads_iff (n : RegNum) (cnt : ShiftSource) : n ∈ shiftReads cnt ↔ cnt = .reg n := by
  cases cnt <;> simp [shiftReads, eq_comm]

/-- An alternate-space word reads registers only in its legal form (log 34). -/
theorem mem_altReads_iff (n : RegNum) (data : List RegNum) (rs1 : RegNum) (src : AltSource) :
    n ∈ altReads data rs1 src ↔ ∃ asi rs2, src = .reg asi rs2 ∧ (n ∈ data ∨ n = rs1 ∨ n = rs2) := by
  cases src <;> simp [altReads]

theorem regReads_of_mem_operandReaders {rd rs1 : RegNum} {src : Operand2} {i : Instr} (h : i ∈ operandReaders rd rs1 src) :
    regReads i = rs1 :: operandReads src := by
  have hreads : (operandReaders rd rs1 src).map regReads =
      List.replicate (operandReaders rd rs1 src).length (rs1 :: operandReads src) := rfl
  exact List.eq_of_mem_replicate (hreads ▸ List.mem_map_of_mem h)

section
variable {i : Instr} {n rd rs1 : RegNum}

theorem readsReg_operands {src : Operand2} (hi : i ∈ operandReaders rd rs1 src) (h : n ∈ rs1 :: operandReads src) :
    ReadsReg i n :=
  ⟨rd, rs1, 0#5, src, .imm 0#5, 0#8, .inl ⟨hi, by simpa [mem_operandReads_iff] using h⟩⟩

theorem readsReg_store {src : Operand2} (hi : i ∈ [.st rd rs1 src, .stb rd rs1 src, .sth rd rs1 src, .swap rd rs1 src])
    (h : n ∈ rd :: rs1 :: operandReads src) : ReadsReg i n :=
  ⟨rd, rs1, 0#5, src, .imm 0#5, 0#8, .inr (.inl ⟨hi, by simpa [mem_operandReads_iff] using h⟩)⟩

theorem readsReg_loadAlternate {src : AltSource}
    (hi : i ∈ [.lda rd rs1 src, .lduba rd rs1 src, .lduha rd rs1 src, .ldda rd rs1 src, .ldsba rd rs1 src, .ldsha rd rs1 src,
      .ldstuba rd rs1 src]) (h : n ∈ altReads [] rs1 src) : ReadsReg i n := by
  obtain ⟨asi, rs2, rfl, hn⟩ := (mem_altReads_iff ..).1 h
  exact ⟨rd, rs1, rs2, .imm 0#13, .imm 0#5, asi, .inr (.inr (.inr (.inl ⟨hi, by simpa using hn⟩)))⟩

theorem readsReg_storeAlternate {src : AltSource}
    (hi : i ∈ [.sta rd rs1 src, .stba rd rs1 src, .stha rd rs1 src, .swapa rd rs1 src]) (h : n ∈ altReads [rd] rs1 src) :
    ReadsReg i n := by
  obtain ⟨asi, rs2, rfl, hn⟩ := (mem_altReads_iff ..).1 h
  exact ⟨rd, rs1, rs2, .imm 0#13, .imm 0#5, asi, .inr (.inr (.inr (.inr (.inl ⟨hi, by simpa using hn⟩))))⟩

theorem readsReg_shift {cnt : ShiftSource} (hi : i ∈ [.sll rd rs1 cnt, .srl rd rs1 cnt, .sra rd rs1 cnt])
    (h : n ∈ rs1 :: shiftReads cnt) : ReadsReg i n :=
  ⟨rd, rs1, 0#5, .imm 0#13, cnt, 0#8,
    .inr (.inr (.inr (.inr (.inr (.inr ⟨hi, by simpa [mem_shiftReads_iff] using h⟩)))))⟩

end

/-- The registers of the model's list are those the family of the instruction reads (10_state.md R47). -/
theorem mem_regReads_iff (i : Instr) (n : RegNum) : n ∈ regReads i ↔ ReadsReg i n := by
  refine ⟨fun h => ?_, ?_⟩
  · cases i
    case ldsb rd rs1 src | ldsh rd rs1 src | ldub rd rs1 src | lduh rd rs1 src | ld rd rs1 src | ldd rd rs1 src
        | ldstub rd rs1 src | ldf rd rs1 src | lddf rd rs1 src | stf rd rs1 src | stdf rd rs1 src | ldc rd rs1 src
        | lddc rd rs1 src | stc rd rs1 src | stdc rd rs1 src | add rd rs1 src | and rd rs1 src | or rd rs1 src
        | xor rd rs1 src | sub rd rs1 src | andn rd rs1 src | orn rd rs1 src | xnor rd rs1 src | addx rd rs1 src
        | subx rd rs1 src | addcc rd rs1 src | andcc rd rs1 src | orcc rd rs1 src | xorcc rd rs1 src | subcc rd rs1 src
        | andncc rd rs1 src | orncc rd rs1 src | xnorcc rd rs1 src | addxcc rd rs1 src | subxcc rd rs1 src
        | taddcc rd rs1 src | tsubcc rd rs1 src | taddcctv rd rs1 src | tsubcctv rd rs1 src | mulscc rd rs1 src
        | jmpl rd rs1 src | save rd rs1 src | restore rd rs1 src =>
      exact readsReg_operands (rd := rd) (by simp [operandReaders]) h
    case ldfsr | stfsr | stdfq | ldcsr | stcsr | stdcq | rett | tn | te | tle | tl | tleu | tcs | tneg | tvs | ta | tne | tg
        | tge | tgu | tcc | tpos | tvc | wry | wrpsr | wrwim | wrtbr =>
      exact readsReg_operands (rd := 0#5) (by simp [operandReaders]) h
    case st | stb | sth | swap => exact readsReg_store (by simp) h
    case std rd rs1 src =>
      exact ⟨rd, rs1, 0#5, src, .imm 0#5, 0#8,
        .inr (.inr (.inl ⟨rfl, by simpa [regReads, mem_operandReads_iff] using h⟩))⟩
    case lda rd _ _ | lduba rd _ _ | lduha rd _ _ | ldda rd _ _ | ldsba rd _ _ | ldsha rd _ _ | ldstuba rd _ _ =>
      exact readsReg_loadAlternate (rd := rd) (by simp) h
    case sta | stba | stha | swapa => exact readsReg_storeAlternate (by simp) h
    case stda rd rs1 src =>
      obtain ⟨asi, rs2, rfl, hn⟩ := (mem_altReads_iff ..).1 h
      exact ⟨rd, rs1, rs2, .imm 0#13, .imm 0#5, asi,
        .inr (.inr (.inr (.inr (.inr (.inl ⟨rfl, by simpa [or_assoc] using hn⟩)))))⟩
    case sll rd _ _ | srl rd _ _ | sra rd _ _ => exact readsReg_shift (rd := rd) (by simp) h
    all_goals exact absurd h List.not_mem_nil
  · rintro ⟨rd, rs1, rs2, src, cnt, asi, ⟨hi, hn⟩ | ⟨hi, hn⟩ | ⟨rfl, hn⟩ | ⟨hi, hn⟩ | ⟨hi, hn⟩ | ⟨rfl, hn⟩ | ⟨hi, hn⟩⟩
    · simpa [regReads_of_mem_operandReaders hi, mem_operandReads_iff] using hn
    · fin_cases hi <;> simpa [regReads, mem_operandReads_iff] using hn
    · simpa [regReads, mem_operandReads_iff] using hn
    · fin_cases hi <;> simpa [regReads, altReads] using hn
    · fin_cases hi <;> simpa [regReads, altReads] using hn
    · simpa [regReads, altReads] using hn
    · fin_cases hi <;> simpa [regReads, mem_shiftReads_iff] using hn

/-- An r register of the current window that the instruction reads is wrong, as the model finds it (60_exceptions.md R585). -/
theorem State.any_physReads_iff (s : State) (inp : BoardInput) (i : Instr) :
    ((s.physReads i).any fun p => wrongParity inp .registerFile (s.physWritten p)) = true ↔ ReadsWrongRegister s inp i := by
  simp only [State.physReads, List.any_eq_true, List.mem_filter, List.mem_map, mem_regReads_iff, bne_iff_ne,
    ReadsWrongRegister]
  constructor
  · rintro ⟨_, ⟨⟨n, hn, rfl⟩, hne⟩, hwrong⟩
    exact ⟨n, hn, mt (phys_eq_zero_iff _ n).2 hne, hwrong⟩
  · rintro ⟨n, hn, hne, hwrong⟩
    exact ⟨_, ⟨⟨n, hn, rfl⟩, mt (phys_eq_zero_iff _ n).1 hne⟩, hwrong⟩

end Sys2Proof.Machine

/-! The loads whose data may have wrong parity (spec 60_exceptions.md R581): which instructions receive data, how their execution
ends, and what of it is spoilt. -/

namespace Sys2Proof.Machine

/-! ## Receiving data -/

theorem State.receives_iff (s : State) (alternate : Bool) (asi : Asi) (ea : Word) (size : AccessSize) (atomic : Bool) :
    s.receives alternate asi ea size atomic = true ↔
      (alternate = true → s.psr.s = true) ∧ misaligned size ea = false ∧ s.refuses asi ea size .read atomic = false := by
  simp [State.receives, State.memTraps, firstTrap_eq_none_iff]

theorem State.receivesAlt_iff (s : State) (rs1 : RegNum) (src : AltSource) (size : AccessSize) (atomic : Bool) :
    s.receivesAlt rs1 src size atomic = true ↔
      ∃ asi rs2, src = .reg asi rs2 ∧ s.receives true asi (s.reg rs1 + s.reg rs2) size atomic = true := by
  cases src <;> simp [State.receivesAlt]

theorem State.receivesUnit_iff (s : State) (u : UnitId) (ea : Word) (size : AccessSize) :
    s.receivesUnit u ea size = true ↔
      s.unitDisabled u = false ∧ (s.unit u).excPending = false ∧ misaligned size ea = false ∧
        s.refuses s.dataAsi ea size .read false = false := by
  simp [State.receivesUnit, State.unitTraps, firstTrap_eq_none_iff, and_left_comm]

/-- What the rows of the table of integer loads say of the model's functions. -/
theorem receivesData_of_integerLoads {rd : RegNum} {forms : MemForms} {size : AccessSize} {atomic : Bool} {target : LoadTarget}
    (h : (forms, size, atomic, target) ∈ integerLoads rd) (s : State) (rs1 : RegNum) :
    (∀ src, s.receivesData (forms.1 rd rs1 src) = s.receives false s.dataAsi (s.ea rs1 src) size atomic ∧
        loadTarget (forms.1 rd rs1 src) = target) ∧
      ∀ src, s.receivesData (forms.2 rd rs1 src) = s.receivesAlt rs1 src size atomic ∧
        loadTarget (forms.2 rd rs1 src) = target := by
  simp only [integerLoads, List.mem_cons, List.not_mem_nil, or_false, Prod.mk.injEq] at h
  rcases h with ⟨rfl, rfl, rfl, rfl⟩ | ⟨rfl, rfl, rfl, rfl⟩ | ⟨rfl, rfl, rfl, rfl⟩ | ⟨rfl, rfl, rfl, rfl⟩ |
    ⟨rfl, rfl, rfl, rfl⟩ | ⟨rfl, rfl, rfl, rfl⟩ | ⟨rfl, rfl, rfl, rfl⟩ | ⟨rfl, rfl, rfl, rfl⟩ <;>
    exact ⟨fun _ => ⟨rfl, rfl⟩, fun _ => ⟨rfl, rfl⟩⟩

theorem receivesData_of_unitLoads {rd rs1 : RegNum} {src : Operand2} {u : UnitId} {i : Instr} {size : AccessSize}
    {target : LoadTarget} (h : (u, i, size, target) ∈ unitLoads rd rs1 src) (s : State) :
    s.receivesData i = s.receivesUnit u (s.ea rs1 src) size ∧ loadTarget i = target := by
  simp only [unitLoads, List.mem_cons, List.not_mem_nil, or_false, Prod.mk.injEq] at h
  rcases h with ⟨rfl, rfl, rfl, rfl⟩ | ⟨rfl, rfl, rfl, rfl⟩ | ⟨rfl, rfl, rfl, rfl⟩ | ⟨rfl, rfl, rfl, rfl⟩ |
    ⟨rfl, rfl, rfl, rfl⟩ | ⟨rfl, rfl, rfl, rfl⟩ <;> exact ⟨rfl, rfl⟩

/-- An instruction that receives data, as the statements say it, receives data in the model, for the same destination. -/
theorem ReceivesData.receivesData {s : State} {i : Instr} {target : LoadTarget} (h : ReceivesData s i target) :
    s.receivesData i = true ∧ loadTarget i = target := by
  rcases h with ⟨rd, rs1, forms, size, atomic, asi, ea, hrow, ha, halign, href⟩ |
    ⟨rd, rs1, src, u, size, hrow, hdis, hpend, halign, href⟩
  · obtain ⟨hplain, halt⟩ := receivesData_of_integerLoads hrow s rs1
    rcases ha with ⟨src, rfl, rfl, rfl⟩ | ⟨hs, rs2, rfl, rfl⟩
    · obtain ⟨hdata, htarget⟩ := hplain src
      exact ⟨hdata ▸ (s.receives_iff ..).2 ⟨nofun, halign, href⟩, htarget⟩
    · obtain ⟨hdata, htarget⟩ := halt (.reg asi rs2)
      exact ⟨hdata ▸ (s.receivesAlt_iff ..).2 ⟨asi, rs2, rfl, (s.receives_iff ..).2 ⟨fun _ => hs, halign, href⟩⟩, htarget⟩
  · obtain ⟨hdata, htarget⟩ := receivesData_of_unitLoads hrow s
    exact ⟨hdata ▸ (s.receivesUnit_iff ..).2 ⟨hdis, hpend, halign, href⟩, htarget⟩

/-- The row of an integer load in its table. -/
def integerLoad (rd : RegNum) (k : Fin 8) : MemForms × AccessSize × Bool × LoadTarget := (integerLoads rd)[k.val]'k.isLt

/-- The row of the load of a unit in its table. -/
def unitLoad (rd rs1 : RegNum) (src : Operand2) (k : Fin 6) : UnitId × Instr × AccessSize × LoadTarget :=
  (unitLoads rd rs1 src)[k.val]'k.isLt

section
variable {s : State} {rd rs1 : RegNum}

theorem receives_plain (k : Fin 8) {src : Operand2} (h : s.receivesData ((integerLoad rd k).1.1 rd rs1 src) = true) :
    ∃ target, ReceivesData s ((integerLoad rd k).1.1 rd rs1 src) target := by
  have hrow : integerLoad rd k ∈ integerLoads rd := List.getElem_mem _
  obtain ⟨hdata, -⟩ := (receivesData_of_integerLoads hrow s rs1).1 src
  obtain ⟨-, halign, href⟩ := (s.receives_iff ..).1 (hdata ▸ h)
  exact ⟨_, .inl ⟨rd, rs1, _, _, _, _, _, hrow, .inl ⟨src, rfl, rfl, rfl⟩, halign, href⟩⟩

theorem receives_alternate (k : Fin 8) {src : AltSource} (h : s.receivesData ((integerLoad rd k).1.2 rd rs1 src) = true) :
    ∃ target, ReceivesData s ((integerLoad rd k).1.2 rd rs1 src) target := by
  have hrow : integerLoad rd k ∈ integerLoads rd := List.getElem_mem _
  obtain ⟨hdata, -⟩ := (receivesData_of_integerLoads hrow s rs1).2 src
  obtain ⟨asi, rs2, rfl, hreceives⟩ := (s.receivesAlt_iff ..).1 (hdata ▸ h)
  obtain ⟨hs, halign, href⟩ := (s.receives_iff ..).1 hreceives
  exact ⟨_, .inl ⟨rd, rs1, _, _, _, asi, _, hrow, .inr ⟨hs rfl, rs2, rfl, rfl⟩, halign, href⟩⟩

theorem receives_unit (k : Fin 6) {src : Operand2} (h : s.receivesData (unitLoad rd rs1 src k).2.1 = true) :
    ∃ target, ReceivesData s (unitLoad rd rs1 src k).2.1 target := by
  have hrow : unitLoad rd rs1 src k ∈ unitLoads rd rs1 src := List.getElem_mem _
  obtain ⟨hdata, -⟩ := receivesData_of_unitLoads hrow s
  obtain ⟨hdis, hpend, halign, href⟩ := (s.receivesUnit_iff ..).1 (hdata ▸ h)
  exact ⟨_, .inr ⟨rd, rs1, src, _, _, hrow, hdis, hpend, halign, href⟩⟩

end

/-- Nothing but the loads of the two tables receives data. -/
theorem exists_receivesData {s : State} {i : Instr} (h : s.receivesData i = true) : ∃ target, ReceivesData s i target := by
  cases i
  case ldsb => exact receives_plain 0 h
  case ldub => exact receives_plain 1 h
  case ldsh => exact receives_plain 2 h
  case lduh => exact receives_plain 3 h
  case ld => exact receives_plain 4 h
  case ldd => exact receives_plain 5 h
  case ldstub => exact receives_plain 6 h
  case swap => exact receives_plain 7 h
  case ldsba => exact receives_alternate 0 h
  case lduba => exact receives_alternate 1 h
  case ldsha => exact receives_alternate 2 h
  case lduha => exact receives_alternate 3 h
  case lda => exact receives_alternate 4 h
  case ldda => exact receives_alternate 5 h
  case ldstuba => exact receives_alternate 6 h
  case swapa => exact receives_alternate 7 h
  case ldf => exact receives_unit 0 h
  case lddf => exact receives_unit 1 h
  case ldfsr => exact receives_unit (rd := 0#5) 2 h
  case ldc => exact receives_unit 3 h
  case lddc => exact receives_unit 4 h
  case ldcsr => exact receives_unit (rd := 0#5) 5 h
  all_goals exact absurd h Bool.false_ne_true

/-! ## Executing a load -/

/-- From `s` to `t` a load was executed: nothing changes but r registers, the units, memory (which an atomic writes) with the record
of the newest stores, the count of free values and the program counters, which go on to the next instruction. -/
def LoadFrame (s t : State) : Prop :=
  t = { s with
        globals := t.globals, windows := t.windows, fpu := t.fpu, cp := t.cp, mem := t.mem, recent := t.recent,
        pc := s.npc, npc := s.npc + 4#32, prev := .other, free := t.free }

theorem TouchesUnit.loadFrame {s t : State} {u : UnitId} (h : TouchesUnit s t u) : LoadFrame s t.advance := by
  obtain ⟨x, k, rfl⟩ := h
  rfl

theorem performsAccess_of_integerLoads {rd : RegNum} {forms : MemForms} {size : AccessSize} {atomic : Bool} {target : LoadTarget}
    (h : (forms, size, atomic, target) ∈ integerLoads rd) (s : State) (rs1 : RegNum) :
    ∃ refused done, PerformsAccess s forms rd rs1 size refused done ∧ ∀ asi ea, LoadFrame s (done asi ea) := by
  simp only [integerLoads, List.mem_cons, List.not_mem_nil, or_false, Prod.mk.injEq] at h
  rcases h with ⟨rfl, rfl, rfl, rfl⟩ | ⟨rfl, rfl, rfl, rfl⟩ | ⟨rfl, rfl, rfl, rfl⟩ | ⟨rfl, rfl, rfl, rfl⟩ |
    ⟨rfl, rfl, rfl, rfl⟩ | ⟨rfl, rfl, rfl, rfl⟩ | ⟨rfl, rfl, rfl, rfl⟩ | ⟨rfl, rfl, rfl, rfl⟩ <;>
    exact ⟨_, _, { plain := fun _ => rfl, alternate := fun _ => rfl }, fun _ _ => rfl⟩

theorem performsUnitAccess_of_unitLoads {rd rs1 : RegNum} {src : Operand2} {u : UnitId} {i : Instr} {size : AccessSize}
    {target : LoadTarget} (h : (u, i, size, target) ∈ unitLoads rd rs1 src) (s : State) :
    ∃ refused done, PerformsUnitAccess s u i false size (s.ea rs1 src) refused done ∧ LoadFrame s done := by
  simp only [unitLoads, List.mem_cons, List.not_mem_nil, or_false, Prod.mk.injEq] at h
  rcases h with ⟨rfl, rfl, rfl, rfl⟩ | ⟨rfl, rfl, rfl, rfl⟩ | ⟨rfl, rfl, rfl, rfl⟩ | ⟨rfl, rfl, rfl, rfl⟩ |
    ⟨rfl, rfl, rfl, rfl⟩ | ⟨rfl, rfl, rfl, rfl⟩ <;>
    exact ⟨_, _, rfl, (s.touchesUnit_driveUnit _ _).loadFrame⟩

/-- A unit's access that no trap before the refusal stops. -/
theorem PerformsUnitAccess.exec_eq {s : State} {u : UnitId} {i : Instr} {size : AccessSize} {ea : Word} {refused : Bool}
    {done : State} (h : PerformsUnitAccess s u i false size ea refused done) (hdis : s.unitDisabled u = false)
    (hpend : (s.unit u).excPending = false) (halign : misaligned size ea = false) :
    exec i s = .next (if refused = true then s.raise .dataAccess else done) := by
  rw [h]
  simp only [State.unitTraps, State.attempt_cons, State.attempt_nil, Bool.false_and, hdis, hpend, halign, Bool.false_eq_true,
    if_false]

/-- A load that receives data ends as a load, or with the refusal of its second transaction (20_memory.md R124). -/
theorem exec_of_receivesData {s : State} {i : Instr} {target : LoadTarget} (h : ReceivesData s i target) :
    ∃ t, exec i s = .next t ∧ (LoadFrame s t ∨ t = s.raise .dataAccess) := by
  rcases h with ⟨rd, rs1, forms, size, atomic, asi, ea, hrow, ha, halign, -⟩ |
    ⟨rd, rs1, src, u, size, hrow, hdis, hpend, halign, -⟩
  · obtain ⟨refused, done, hperforms, hframe⟩ := performsAccess_of_integerLoads hrow s rs1
    refine ⟨_, hperforms.exec_eq ha, ?_⟩
    rw [if_neg (ne_true_of_eq_false halign)]
    split
    · exact .inr rfl
    · exact .inl (hframe asi ea)
  · obtain ⟨refused, done, hperforms, hframe⟩ := performsUnitAccess_of_unitLoads hrow s
    refine ⟨_, hperforms.exec_eq hdis hpend halign, ?_⟩
    split
    · exact .inr rfl
    · exact .inl hframe

/-! ## Spoiling what was loaded -/

/-- Registers written in the current window leave those of no other number. -/
theorem State.setReg_other (s : State) {rd : RegNum} (v : Word) {w : Window} {n : RegNum} (h : phys w n ≠ phys s.psr.cwp rd) :
    (s.setReg rd v).regIn w n = s.regIn w n ∧ (s.setReg rd v).physWritten (phys w n) = s.physWritten (phys w n) := by
  refine ⟨?_, ?_⟩
  · rw [State.setReg, State.regIn_setRegIn, if_neg fun hc => h hc.1]
  · rw [State.setReg, State.setRegIn, State.physWritten_writePhys, decide_eq_false h, Bool.false_or]

/-- A unit changed leaves the other. -/
theorem State.setUnit_unit_of_ne (s : State) {u x : UnitId} (h : x ≠ u) (y : CoUnit) : (s.setUnit u y).unit x = s.unit x := by
  cases u <;> cases x
  · exact absurd rfl h
  · rfl
  · rfl
  · exact absurd rfl h

/-- What is spoilt is the load's destination. -/
theorem State.onlyTarget_spoil (s : State) (target : LoadTarget) : OnlyTarget s (s.spoil target) target := by
  refine ⟨by cases target <;> rfl, ?_⟩
  have hunit (u : UnitId) (x : CoUnit) (k : Nat) : State.unit { s.setUnit u x with free := k } u = x := s.setUnit_unit u x
  cases target with
  | nothing => rfl
  | single rd => exact ⟨rfl, rfl, fun w n h => s.setReg_other _ h⟩
  | pair rd =>
    refine ⟨rfl, rfl, fun w n ⟨heven, hodd⟩ => ?_⟩
    obtain ⟨hreg, hwritten⟩ := s.setReg_other (Config.lateLoadWord s.free 0) heven
    obtain ⟨hreg', hwritten'⟩ := (s.setReg (pairEven rd) (Config.lateLoadWord s.free 0)).setReg_other
      (Config.lateLoadWord s.free 1) hodd
    exact ⟨hreg'.trans hreg, hwritten'.trans hwritten⟩
  | unit u rd =>
    refine ⟨⟨rfl, rfl⟩, fun x hx => s.setUnit_unit_of_ne hx _, ?_, fun n hn => ?_⟩
    · rw [State.spoil, hunit]
      rfl
    · rw [State.spoil, hunit, CoUnit.reg_setReg_of_ne _ _ hn]
  | unitPair u rd =>
    refine ⟨⟨rfl, rfl⟩, fun x hx => s.setUnit_unit_of_ne hx _, ?_, fun n heven hodd => ?_⟩
    · rw [State.spoil, hunit]
      rfl
    · rw [State.spoil, hunit, CoUnit.reg_setPair_of_ne _ _ _ heven hodd]
  | unitStatus u =>
    refine ⟨⟨rfl, rfl⟩, fun x hx => s.setUnit_unit_of_ne hx _, ?_, ?_⟩
    · rw [State.spoil, hunit]
      rfl
    · rw [State.spoil, hunit, CoUnit.setStatus_kept]

end Sys2Proof.Machine

/-! The statement on parity errors (spec 60_exceptions.md R580 to R587, R541): the classes of errors that a boundary finds, in the
order of R586, and those that the executed instruction finds at its end. -/

namespace Sys2Proof.Machine

/-- A condition of the model that means `P` is off where `P` fails. -/
theorem eq_false_of_iff {c : Bool} {P : Prop} (h : c = true ↔ P) (hP : ¬P) : c = false := Bool.eq_false_iff.2 (mt h.1 hP)

/-! ## The classes of errors at a boundary -/

/-- The boundary in `a` runs an instruction: it is not annulled and its fetch is not refused. -/
def State.RunsWord (a : State) : Prop := a.annul = false ∧ a.fetchRefused = false

/-- An error of what every instruction uses, the execute PC and the PSR (0x64). -/
def ImpreciseError (inp : BoardInput) : Prop :=
  inp.upsets.contains .executePc = true ∨ inp.upsets.contains .psr = true

/-- The TBR has wrong parity if it is read (log 22, 37). -/
def State.wrongTbr (a : State) (inp : BoardInput) : Bool := wrongParity inp .tbr a.written.tba

/-- An error of the decode PC, or of the WIM or the TBR where they are used (0x62). -/
def State.NonRestartableError (a : State) (inp : BoardInput) : Prop :=
  (a.annul = false ∧ inp.upsets.contains .decodePc = true) ∨ (a.interruptPending = true ∧ a.wrongTbr inp = true) ∨
    (a.annul = false ∧ a.fetchRefused = true ∧ a.wrongTbr inp = true) ∨
    (a.RunsWord ∧ (ReadsWim (decode a.fetchedWord) ∧ wrongParity inp .wim a.written.wim = true ∨
      ReadsTbr (decode a.fetchedWord) ∧ a.wrongTbr inp = true))

/-- An error of an r register that the instruction reads (0x65). -/
def State.RegisterFileError (a : State) (inp : BoardInput) : Prop :=
  a.RunsWord ∧ ReadsWrongRegister a inp (decode a.fetchedWord)

/-- An error of the fetch PC, of Y where it is read, of the fetched word (0x61). -/
def State.PreciseError (a : State) (inp : BoardInput) : Prop :=
  (a.annul = false ∧ inp.upsets.contains .fetchPc = true) ∨
    (a.RunsWord ∧ ((ReadsY (decode a.fetchedWord) ∧ wrongParity inp .y a.written.y = true) ∨
      (inp.upsets.contains .fetchData = true ∧ a.pins.busParityEnabled = true)))

theorem State.current_of_runsWord {a : State} (h : a.RunsWord) : a.current = some (decode a.fetchedWord) := by
  obtain ⟨hannul, hfetch⟩ := h
  simp [State.current, hannul, hfetch]

theorem State.current_of_not_runsWord {a : State} (h : ¬a.RunsWord) : a.current = none := by
  simp only [State.RunsWord, not_and_or, Bool.not_eq_false] at h
  rcases h with h | h <;> simp [State.current, h]

/-- What is asked of the instruction about to be executed is asked where there is one. -/
theorem State.current_any_iff (a : State) (f : Instr → Bool) :
    a.current.any f = true ↔ a.RunsWord ∧ f (decode a.fetchedWord) = true := by
  by_cases h : a.RunsWord
  · simp [State.current_of_runsWord h, h]
  · simp [State.current_of_not_runsWord h, h]

theorem State.not_runsWord_of_annul {a : State} (h : a.annul = true) : ¬a.RunsWord := by simp [State.RunsWord, h]

theorem State.not_runsWord_of_fetchRefused {a : State} (h : a.fetchRefused = true) : ¬a.RunsWord := by simp [State.RunsWord, h]

theorem State.current_isSome_iff (a : State) : a.current.isSome = true ↔ a.RunsWord := by
  by_cases h : a.RunsWord
  · simp [State.current_of_runsWord h, h]
  · simp [State.current_of_not_runsWord h, h]

theorem State.preciseError_iff (a : State) (inp : BoardInput) : a.preciseError inp a.current = true ↔ a.PreciseError inp := by
  simp only [State.preciseError, State.PreciseError, Bool.or_eq_true, Bool.and_eq_true, Bool.not_eq_true', State.current_any_iff,
    State.current_isSome_iff, usesY_iff, and_assoc, and_or_left, or_assoc]

/-- The model's list of hardware errors is the three classes in their order (R586). -/
theorem State.hardwareTraps_eq (a : State) (inp : BoardInput) : ∃ c₁ c₂ c₃,
    a.hardwareTraps inp a.current = [(c₁, .imprecise), (c₂, .nonRestartable), (c₃, .registerFile)] ∧
      (c₁ = true ↔ ImpreciseError inp) ∧ (c₂ = true ↔ a.NonRestartableError inp) ∧ (c₃ = true ↔ a.RegisterFileError inp) := by
  refine ⟨_, _, _, rfl, ?_, ?_, ?_⟩
  · exact Bool.or_eq_true_iff
  · simp only [Bool.or_eq_true, Bool.and_eq_true, Bool.not_eq_true', State.current_any_iff, usesWim_iff, usesTbr_iff,
      State.NonRestartableError, State.wrongTbr]
    tauto
  · rw [State.current_any_iff, State.any_physReads_iff]
    rfl

section
variable {a : State} {inp : BoardInput}

/-! The gravest class of which there is an error is the trap. -/

theorem State.firstTrap_imprecise (h : ImpreciseError inp) : firstTrap (a.hardwareTraps inp a.current) = some .imprecise := by
  obtain ⟨c₁, c₂, c₃, heq, h₁, -, -⟩ := a.hardwareTraps_eq inp
  rw [heq, h₁.2 h]
  rfl

theorem State.firstTrap_nonRestartable (h : ¬ImpreciseError inp) (h' : a.NonRestartableError inp) :
    firstTrap (a.hardwareTraps inp a.current) = some .nonRestartable := by
  obtain ⟨c₁, c₂, c₃, heq, h₁, h₂, -⟩ := a.hardwareTraps_eq inp
  rw [heq, eq_false_of_iff h₁ h, h₂.2 h']
  rfl

theorem State.firstTrap_registerFile (h : ¬ImpreciseError inp) (h' : ¬a.NonRestartableError inp)
    (h'' : a.RegisterFileError inp) : firstTrap (a.hardwareTraps inp a.current) = some .registerFile := by
  obtain ⟨c₁, c₂, c₃, heq, h₁, h₂, h₃⟩ := a.hardwareTraps_eq inp
  rw [heq, eq_false_of_iff h₁ h, eq_false_of_iff h₂ h', h₃.2 h'']
  rfl

theorem State.firstTrap_none (h : ¬ImpreciseError inp) (h' : ¬a.NonRestartableError inp) (h'' : ¬a.RegisterFileError inp) :
    firstTrap (a.hardwareTraps inp a.current) = none := by
  obtain ⟨c₁, c₂, c₃, heq, h₁, h₂, h₃⟩ := a.hardwareTraps_eq inp
  rw [heq, eq_false_of_iff h₁ h, eq_false_of_iff h₂ h', eq_false_of_iff h₃ h'']
  rfl

/-- A boundary that runs no instruction has no error of what an instruction reads. -/
theorem State.not_registerFileError (h : ¬a.RunsWord) : ¬a.RegisterFileError inp := fun ⟨hruns, _⟩ => h hruns

/-- An annulled slot uses the TBR for an interrupt only, and nothing else but the PSR and the execute PC (log 34). -/
theorem State.not_nonRestartableError_of_annul (ha : a.annul = true) (hi : a.interruptPending = false) :
    ¬a.NonRestartableError inp := by
  simp [State.NonRestartableError, State.RunsWord, ha, hi]

/-- A refused fetch with a precise error takes that, an interrupt pending or not (R586). -/
theorem State.executeBoundary_refused_precise (h : firstTrap (a.hardwareTraps inp a.current) = none) (ha : a.annul = false)
    (hr : a.fetchRefused = true) (hp : a.preciseError inp a.current = true) :
    a.executeBoundary inp = .over (a.hardwareTrap .restartablePrecise) := by
  simp [State.executeBoundary, h, ha, hr, hp]

end

/-! ## Whether the instruction took a trap -/

/-- A trap is seen by the ET or the mode it leaves, but for WRPSR, whose conditions tell. -/
theorem tookTrap_eq_true {i : Instr} {s t : State}
    (hwrpsr : ∀ rs1 src, i = .wrpsr rs1 src → (firstTrap (s.wrpsrTraps (s.writeValue rs1 src))).isSome = true)
    (het : s.psr.et = true → t.psr.et = false) (hmode : s.psr.et = false → t.mode = .error) : tookTrap i s t = true := by
  unfold tookTrap
  split
  · exact hwrpsr _ _ rfl
  · split <;> simp_all

/-- A WRPSR that does not go on to the next instruction took a trap (R431). -/
theorem wrpsrTraps_isSome_of_pc_ne {s t : State} {rs1 : RegNum} {src : Operand2} (hexec : exec (.wrpsr rs1 src) s = .next t)
    (hpc : t.pc ≠ s.npc) : (firstTrap (s.wrpsrTraps (s.writeValue rs1 src))).isSome = true := by
  rcases State.attempt_cases (Host.Outcome.next.inj hexec) with ⟨trap, htrap, -⟩ | ⟨-, rfl⟩
  · rw [htrap]
    rfl
  · exact absurd rfl hpc

/-- An instruction that traps after work that left ET took the trap. -/
theorem tookTrap_of_raise {i : Instr} {s v : State} {trap : Trap} (hexec : exec i s = .next (v.raise trap))
    (het : v.psr.et = s.psr.et) (hpc : (v.raise trap).pc ≠ s.npc) : tookTrap i s (v.raise trap) = true := by
  refine tookTrap_eq_true (fun rs1 src hi => ?_) (fun _ => rfl) fun h => v.raise_mode_of_not_et trap (het.trans h)
  subst hi
  exact wrpsrTraps_isSome_of_pc_ne hexec hpc

/-- The instruction takes no trap: it ends in execute mode and does not disable traps, or it is a WRPSR in supervisor mode of a
CWP that is a window. -/
def TrapFree (s : State) (i : Instr) : Prop :=
  (∃ t, exec i s = .next t ∧ t.mode = .execute ∧ (s.psr.et = true → t.psr.et = true)) ∨
    ∃ rs1 src, i = .wrpsr rs1 src ∧ s.psr.s = true ∧ (s.reg rs1 ^^^ s.operand2 src).toNat % 32 < 8

theorem TrapFree.tookTrap {s t : State} {i : Instr} (h : TrapFree s i) (hexec : exec i s = .next t) : tookTrap i s t = false := by
  rcases h with ⟨t', hexec', hmode, het⟩ | ⟨rs1, src, rfl, hs, hcwp⟩
  · obtain rfl := Host.Outcome.next.inj (hexec.symm.trans hexec')
    exact tookTrap_eq_false hexec hmode het
  · have hwindow : ¬8#5 ≤ (s.writeValue rs1 src).extractLsb' 0 5 := mt (noWindow_iff _).1 (Nat.not_le.2 hcwp)
    show (firstTrap (s.wrpsrTraps (s.writeValue rs1 src))).isSome = false
    simp [State.wrpsrTraps, firstTrap, hs, hwindow]

/-! ## FBfcc -/

theorem State.fiparError_iff (s : State) (inp : BoardInput) (w : Word) :
    s.fiparError inp w = true ↔
      inp.upsets.contains .fpuSignals = true ∧ s.pins.busParityEnabled = true ∧ opField w = 0b00#2 ∧ op2Field w = 0b110#3 := by
  simp only [State.fiparError, isFBfcc, Bool.and_eq_true, beq_iff_eq, and_assoc]

/-- What a word that finds an error on the FPU's signals decodes to. -/
theorem State.decode_of_fiparError {s : State} {inp : BoardInput} {w : Word} (h : s.fiparError inp w = true) :
    ∃ cond a disp22, decode w = decodeFBfcc cond a disp22 := by
  obtain ⟨-, -, hop, hop2⟩ := (s.fiparError_iff inp w).1 h
  exact ⟨_, _, _, (decode_of_op00 hop).trans (decodeOp00_fbfcc w hop2)⟩

theorem decodeFBfcc_ne_wrpsr (cond : BitVec 4) (a : Bool) (disp22 : BitVec 22) (rs1 : RegNum) (src : Operand2) :
    decodeFBfcc cond a disp22 ≠ .wrpsr rs1 src := by
  unfold decodeFBfcc
  split <;> nofun

theorem receivesData_decodeFBfcc (cond : BitVec 4) (a : Bool) (disp22 : BitVec 22) (s : State) :
    s.receivesData (decodeFBfcc cond a disp22) = false := by
  unfold decodeFBfcc
  split <;> rfl

/-- The trap of an FBfcc that finds such an error is seen as one (R582). -/
theorem State.tookTrap_fiparTrap {s : State} {inp : BoardInput} {w : Word} (h : s.fiparError inp w = true) :
    tookTrap (decode w) s s.fiparTrap = true := by
  obtain ⟨cond, a, disp22, hdecode⟩ := State.decode_of_fiparError h
  rw [hdecode]
  exact tookTrap_eq_true (fun rs1 src hi => absurd hi (decodeFBfcc_ne_wrpsr cond a disp22 rs1 src)) (fun _ => rfl)
    (s.raise_mode_of_not_et .fpDisabled)

/-- An instruction that receives data is no FBfcc. -/
theorem ReceivesData.fiparError {s : State} {w : Word} {target : LoadTarget} (h : ReceivesData s (decode w) target)
    (inp : BoardInput) : s.fiparError inp w = false := by
  rw [Bool.eq_false_iff]
  intro hsignals
  obtain ⟨cond, a, disp22, hdecode⟩ := State.decode_of_fiparError hsignals
  obtain ⟨hdata, -⟩ := h.receivesData
  rw [hdecode, receivesData_decodeFBfcc] at hdata
  exact Bool.false_ne_true hdata

/-! ## The end of an executed instruction -/

/-- The load ended as a load, and its late error comes after it; or its second transaction was refused, and the error comes past
it (20_memory.md R124; log 34). -/
theorem ReceivesData.afterLoad {s t : State} {i : Instr} {target : LoadTarget} (h : ReceivesData s i target)
    (hm : s.mode = .execute) (hexec : exec i s = .next t) :
    (s.afterLoad i t = t ∧ LoadFrame s t) ∨ (t = s.raise .dataAccess ∧ s.afterLoad i t = s.advance) := by
  obtain ⟨t', hexec', hends⟩ := exec_of_receivesData h
  obtain rfl := Host.Outcome.next.inj (hexec.symm.trans hexec')
  rcases hends with hframe | rfl
  · have hcalm : tookTrap i s t = false := by
      refine tookTrap_eq_false hexec ?_ fun het => ?_
      · rw [hframe]; exact hm
      · rw [hframe]; exact het
    exact .inl ⟨by rw [State.afterLoad, if_neg (by simp [hcalm])], hframe⟩
  · have hne : ∀ rs1 src, i ≠ .wrpsr rs1 src := by
      rintro rs1 src rfl
      exact Bool.false_ne_true h.receivesData.1
    have htrap := tookTrap_raise i s .dataAccess fun rs1 src hi => absurd hi (hne rs1 src)
    exact .inr ⟨rfl, by rw [State.afterLoad, if_pos htrap]⟩

/-- No data with wrong parity was received. -/
def State.DataRight (s : State) (inp : BoardInput) (i : Instr) : Prop :=
  ∀ target, ¬(inp.upsets.contains .loadData = true ∧ s.pins.busParityEnabled = true ∧ ReceivesData s i target)

section
variable {s t : State} {inp : BoardInput} {i : Instr}

/-- A trap that uses a wrong TBR. -/
theorem State.finish_of_tbr (ht : tookTrap i s t = true) (hw : s.wrongTbr inp = true) :
    s.finish inp i t = s.hardwareTrap .nonRestartable := by
  rw [State.wrongTbr] at hw
  simp [State.finish, ht, hw]

theorem State.DataRight.not_receivesData (h : s.DataRight inp i) :
    (inp.upsets.contains .loadData && s.pins.busParityEnabled && s.receivesData i) = false := by
  rw [Bool.eq_false_iff]
  intro hc
  simp only [Bool.and_eq_true] at hc
  obtain ⟨⟨hdata, hbus⟩, hreceives⟩ := hc
  obtain ⟨target, htarget⟩ := exists_receivesData hreceives
  exact h target ⟨hdata, hbus, htarget⟩

variable (hcalm : (tookTrap i s t && s.wrongTbr inp) = false)
include hcalm

theorem State.finish_of_data (hdata : inp.upsets.contains .loadData = true) (hbus : s.pins.busParityEnabled = true)
    (hreceives : s.receivesData i = true) :
    s.finish inp i t = ((s.afterLoad i t).spoil (loadTarget i)).hardwareTrap .restartableLate := by
  rw [State.wrongTbr] at hcalm
  simp only [State.finish, hcalm, hdata, hbus, hreceives]
  rfl

theorem State.finish_of_precise (hright : s.DataRight inp i) (hp : s.preciseError inp (some i) = true) :
    s.finish inp i t = s.hardwareTrap .restartablePrecise := by
  rw [State.wrongTbr] at hcalm
  simp only [State.finish, hcalm, hright.not_receivesData, hp]
  rfl

theorem State.finish_of_none (hright : s.DataRight inp i) (hp : s.preciseError inp (some i) = false) : s.finish inp i t = t := by
  rw [State.wrongTbr] at hcalm
  simp only [State.finish, hcalm, hright.not_receivesData, hp]
  rfl

end

/-- The word is executed, or it is an FBfcc that finds an error on the FPU's signals. -/
theorem State.executeWord_cases (u : State) (inp : BoardInput) (w : Word) :
    (u.fiparError inp w = true ∧ u.executeWord inp w = .next u.fiparTrap) ∨
      (u.fiparError inp w = false ∧ ∃ t, exec (decode w) u = .next t ∧ u.executeWord inp w = .next t) := by
  cases h : u.fiparError inp w
  · obtain ⟨t, ht⟩ := exec_next (decode w) u
    exact .inr ⟨rfl, t, ht, by rw [State.executeWord, h, ← ht]; rfl⟩
  · exact .inl ⟨rfl, by rw [State.executeWord, h]; rfl⟩

/-- Where the TBR is right or no trap uses it, it raises nothing. -/
theorem tbr_quiet {u t : State} {inp : BoardInput} {w : Word}
    (hquiet : u.wrongTbr inp = false ∨ (u.fiparError inp w = false ∧ TrapFree u (decode w)))
    (ht : u.fiparError inp w = false → exec (decode w) u = .next t) :
    (tookTrap (decode w) u t && u.wrongTbr inp) = false := by
  rcases hquiet with hright | ⟨hno, hfree⟩
  · rw [hright, Bool.and_false]
  · rw [hfree.tookTrap (ht hno), Bool.false_and]

section
variable {s u : State} {w : Word} (hrun : s.boundary = .run w u)
include hrun

/-- A trap uses the TBR: where that is wrong, it is the error that is taken (70_reset_and_hazards.md R632). -/
theorem step_tbr_of_trap {v : State} {trap : Trap} (hw : u.wrongTbr s.input = true)
    (h : u.fiparError s.input w = true ∨
      (exec (decode w) u = .next (v.raise trap) ∧ v.psr.et = u.psr.et ∧ (v.raise trap).pc ≠ u.npc)) :
    step s = .next (u.hardwareTrap .nonRestartable) := by
  rcases u.executeWord_cases s.input w with ⟨hsignals, hword⟩ | ⟨hno, t, hexec, hword⟩
  · rw [step_of_run hrun hword, State.finish_of_tbr (State.tookTrap_fiparTrap hsignals) hw]
  · obtain ⟨hraise, het, hpc⟩ := h.resolve_left (by simp [hno])
    obtain rfl := Host.Outcome.next.inj (hraise.symm.trans hexec)
    rw [step_of_run hrun hword, State.finish_of_tbr (tookTrap_of_raise hexec het hpc) hw]

variable (hquiet : u.wrongTbr s.input = false ∨ (u.fiparError s.input w = false ∧ TrapFree u (decode w)))
include hquiet

/-- Wrong load data: a late error, past the load (R581). -/
theorem step_restartableLate {target : LoadTarget} (hm : u.mode = .execute) (hdata : s.input.upsets.contains .loadData = true)
    (hbus : u.pins.busParityEnabled = true) (h : ReceivesData u (decode w) target) :
    ∃ t base v, exec (decode w) u = .next t ∧
      ((base = t ∧ LoadFrame u t) ∨ (t = u.raise .dataAccess ∧ base = u.advance)) ∧ OnlyTarget base v target ∧ step s = .next (v.hardwareTrap .restartableLate) := by
  obtain ⟨hreceives, rfl⟩ := h.receivesData
  rcases u.executeWord_cases s.input w with ⟨hsignals, -⟩ | ⟨-, t, hexec, hword⟩
  · exact absurd (h.fiparError s.input) (by simp [hsignals])
  · refine ⟨t, u.afterLoad (decode w) t, _, hexec, h.afterLoad hm hexec, State.onlyTarget_spoil _ _, ?_⟩
    rw [step_of_run hrun hword, State.finish_of_data (tbr_quiet hquiet fun _ => hexec) hdata hbus hreceives]

/-- A precise error leaves the instruction undone (R581). -/
theorem step_restartablePrecise (hright : u.DataRight s.input (decode w))
    (hp : u.preciseError s.input (some (decode w)) = true) : step s = .next (u.hardwareTrap .restartablePrecise) := by
  rcases u.executeWord_cases s.input w with ⟨hsignals, hword⟩ | ⟨-, t, hexec, hword⟩
  · rw [step_of_run hrun hword, State.finish_of_precise (tbr_quiet hquiet (by simp [hsignals])) hright hp]
  · rw [step_of_run hrun hword, State.finish_of_precise (tbr_quiet hquiet fun _ => hexec) hright hp]

/-- An FBfcc that finds an error on the FPU's signals (R582). -/
theorem step_fpuSignals (hright : u.DataRight s.input (decode w)) (hp : u.preciseError s.input (some (decode w)) = false)
    (hsignals : u.fiparError s.input w = true) : step s = .next u.fiparTrap := by
  rcases u.executeWord_cases s.input w with ⟨-, hword⟩ | ⟨hno, -⟩
  · rw [step_of_run hrun hword, State.finish_of_none (tbr_quiet hquiet (by simp [hsignals])) hright hp]
  · exact absurd hsignals (by simp [hno])

/-- Without an error of its own an instruction does what it does. -/
theorem step_exec (hright : u.DataRight s.input (decode w)) (hp : u.preciseError s.input (some (decode w)) = false)
    (hno : u.fiparError s.input w = false) : step s = exec (decode w) u := by
  rcases u.executeWord_cases s.input w with ⟨hsignals, -⟩ | ⟨-, t, hexec, hword⟩
  · exact absurd hsignals (by simp [hno])
  · rw [step_of_run hrun hword, State.finish_of_none (tbr_quiet hquiet fun _ => hexec) hright hp, hexec]

end

/-- Settles O57: up to the run of the word the classes are found in the order of `State.hardwareTraps_eq`; of the word run, each
clause is one case of how its step ends. -/
theorem parityErrorsTrapByClass : Obligations.ParityErrorsTrapByClass := by
  intro s hm hr hh hp hu found a w u i runs error imprecise wrongTbr nonRestartable registerFile precise signals data trapFree
  have hboundary : s.boundary = a.executeBoundary s.input := s.boundary_execute hm hr hh hp hu
  have hprecise : a.preciseError s.input a.current = true ↔ precise := a.preciseError_iff s.input
  have hover {t : State} (h : a.executeBoundary s.input = .over t) : step s = .next t := step_of_over (hboundary.trans h)
  refine ⟨fun h => ?_, fun h h' => ?_, fun h h' h'' => ?_, fun h h' h'' hirq hno => ?_, fun h ha hirq => ?_,
    fun h h' ha href => ⟨fun hyes => ?_, fun hno hirq => ?_⟩, fun h h' h'' hruns hgo => ?_⟩
  · exact hover (State.executeBoundary_hardware (State.firstTrap_imprecise h))
  · exact hover (State.executeBoundary_hardware (State.firstTrap_nonRestartable h h'))
  · exact hover (State.executeBoundary_hardware (State.firstTrap_registerFile h h' h''))
  · exact hover (State.executeBoundary_interrupt (State.firstTrap_none h h' h'') hirq (eq_false_of_iff hprecise hno))
  · have hslot := State.not_registerFileError (inp := s.input) (State.not_runsWord_of_annul ha)
    exact hover (State.executeBoundary_annul (State.firstTrap_none h (State.not_nonRestartableError_of_annul ha hirq) hslot)
      hirq ha)
  · have hslot := State.not_registerFileError (inp := s.input) (State.not_runsWord_of_fetchRefused href)
    exact hover (State.executeBoundary_refused_precise (State.firstTrap_none h h' hslot) ha href (hprecise.2 hyes))
  · have hslot := State.not_registerFileError (inp := s.input) (State.not_runsWord_of_fetchRefused href)
    exact hover (State.executeBoundary_refused (State.firstTrap_none h h' hslot) hirq ha href
      (eq_false_of_iff hprecise hno))
  · obtain ⟨hannul, hfetch⟩ := hruns
    have hirq : (a.interruptPending && !a.preciseError s.input a.current) = false := by
      rcases hgo with hno | hyes
      · rw [hno, Bool.false_and]
      · rw [hprecise.2 hyes, Bool.not_true, Bool.and_false]
    have hrun : s.boundary = .run w u :=
      hboundary.trans (State.executeBoundary_run (State.firstTrap_none h h' h'') hirq hannul hfetch)
    have hpreciseRun : u.preciseError s.input (some i) = true ↔ precise :=
      State.current_of_runsWord ⟨hannul, hfetch⟩ ▸ hprecise
    have hsignals : u.fiparError s.input w = true ↔ signals := u.fiparError_iff s.input w
    refine ⟨fun v trap hw htrap => step_tbr_of_trap hrun hw (htrap.imp_left hsignals.2), fun hcalm => ?_⟩
    have hquiet : u.wrongTbr s.input = false ∨ (u.fiparError s.input w = false ∧ TrapFree u i) :=
      hcalm.imp_right fun ⟨hno, hfree⟩ => ⟨eq_false_of_iff hsignals hno, hfree⟩
    refine ⟨fun target ⟨hdata, hbus, hreceives⟩ => ?_, fun hright hyes => ?_,
      fun hright hno hsig => ⟨Config.fiparHwerror u.free, ?_⟩, fun hright hno hnosig => ?_⟩
    · exact step_restartableLate hrun hquiet ((s.accept_mode s.input).trans hm) hdata hbus hreceives
    · exact step_restartablePrecise hrun hquiet hright (hpreciseRun.2 hyes)
    · exact step_fpuSignals hrun hquiet hright (eq_false_of_iff hpreciseRun hno) (hsignals.2 hsig)
    · exact step_exec hrun hquiet hright (eq_false_of_iff hpreciseRun hno) (eq_false_of_iff hsignals hnosig)

end Sys2Proof.Machine

/-! The statement on RESET (spec 70_reset_and_hazards.md R620): a boundary with RESET asserted accepts the board's input and puts
the machine in reset mode, the first one without it leaves reset from what it has accepted. -/

namespace Sys2Proof.Machine

/-! ## The boundary of a reset -/

/-- With RESET asserted there is an input of the board, since an idle board does not assert it. -/
theorem State.board_ne_nil_of_reset {s : State} (hr : s.input.reset = true) : s.board ≠ [] := by
  intro hb
  simp [State.input, hb, State.idleInput] at hr

/-- RESET asserted leads to reset mode from any mode, error mode included. -/
theorem State.boundary_reset {s : State} (hr : s.input.reset = true) :
    s.boundary = .over { s.accept s.input with mode := .reset } := by
  have hb : s.board ≠ [] := State.board_ne_nil_of_reset hr
  simp [State.boundary, State.acceptedBoundary, State.breaksPins, hr, hb]

/-- RESET deasserted, whether HALT is asserted or not, ends the reset (log 36). -/
theorem State.boundary_leaveReset {s : State} (hm : s.mode = .reset) (hr : s.input.reset = false)
    (hp : s.breaksPins s.input = false) : s.boundary = .over (s.accept s.input).leaveReset := by
  simp [State.boundary, State.acceptedBoundary, State.accept_mode, hm, hr, hp]

/-! ## What leaving reset keeps -/

@[simp] theorem State.leaveReset_psr (s : State) :
    s.leaveReset.psr = { s.settleLate.psr with et := false, s := true } := rfl
@[simp] theorem State.leaveReset_wim (s : State) : s.leaveReset.wim = s.settleLate.wim := rfl
@[simp] theorem State.leaveReset_tbr (s : State) : s.leaveReset.tbr = s.settleLate.tbr := rfl
@[simp] theorem State.leaveReset_y (s : State) : s.leaveReset.y = s.settleLate.y := rfl
@[simp] theorem State.leaveReset_globals (s : State) : s.leaveReset.globals = s.globals := by simp [State.leaveReset]
@[simp] theorem State.leaveReset_windows (s : State) : s.leaveReset.windows = s.windows := by simp [State.leaveReset]
@[simp] theorem State.leaveReset_mem (s : State) : s.leaveReset.mem = s.mem := by simp [State.leaveReset]

/-- The board's input changes no control register and no write of one that is still late. -/
theorem State.settleLate_accept (s : State) (inp : BoardInput) :
    (s.accept inp).settleLate.psr = s.settleLate.psr ∧ (s.accept inp).settleLate.wim = s.settleLate.wim ∧
      (s.accept inp).settleLate.tbr = s.settleLate.tbr ∧ (s.accept inp).settleLate.y = s.settleLate.y := by
  rw [State.accept_frame]
  exact ⟨rfl, rfl, rfl, rfl⟩

/-- Without bus writes the board's input changes no byte of memory. -/
theorem State.accept_mem {inp : BoardInput} (s : State) (hb : inp.busWrites = []) : (s.accept inp).mem = s.mem := by
  rw [State.accept_frame, hb]
  rfl

/-- Settles O58: asserted, RESET holds what the boundary accepts; deasserted, the machine leaves reset from it, and what was
accepted does not touch the control registers or their late writes. -/
theorem resetSetsPsrAndPc : Obligations.ResetSetsPsrAndPc := by
  intro s hb kept s'
  obtain ⟨hregs, hpsr, hwim, htbr, hy, hpc, hnpc, -, -⟩ := s.held_accept
  refine ⟨s.settleLate_of_nil, fun hr => ?_, fun hm hr hp => ?_⟩
  · have hmem : MemKept s { s.accept s.input with mode := .reset } := State.memKept_of_mem_eq (s.accept_mem hb)
    exact ⟨_, step_of_over (State.boundary_reset hr), rfl, ⟨hregs, hwim, htbr, hy, hmem⟩, hpsr, hpc, hnpc⟩
  · obtain ⟨hpsr', hwim', htbr', hy'⟩ := s.settleLate_accept s.input
    have hregs' : RegsKept s' (s.accept s.input).leaveReset := by simpa [RegsKept, s'] using hregs
    have hmem' : MemKept s' (s.accept s.input).leaveReset :=
      State.memKept_of_mem_eq (by simp [s', s.accept_mem hb])
    have hset : (s.accept s.input).leaveReset.psr = { s'.psr with et := false, s := true } := by
      rw [State.leaveReset_psr, hpsr']
    exact ⟨_, step_of_over (State.boundary_leaveReset hm hr hp), rfl, ⟨hregs', hwim', htbr', hy', hmem'⟩, hset, rfl, rfl, rfl,
      rfl, rfl, rfl, rfl⟩

end Sys2Proof.Machine
